-- ==== Sys2Proof/Word.lean ====
section
/-! DEFINITION. The word types of the QF3, the three bars, and a triple of one value per bar. -/

namespace Sys2Proof

/-- One byte of the line link. -/
abbrev Byte := BitVec 8

/-- A web position: a 32-bit count in wc that wraps (R1, "Web arithmetic"). -/
abbrev Word := BitVec 32

/-- A set of needle numbers 0..39, needle n counted as the value 2^n (R16, R105, R108). -/
abbrev NeedleSet := BitVec 40

/-- A set of the fourteen defect kinds, kind k counted as the value 2^k (R48, section 3.7). -/
abbrev DefectSet := BitVec 14

/-- A set of the 21 event sources, source n counted as the value 2^n (section 8.1). -/
abbrev SourceSet := BitVec 21

/-- A needle number of one bar. -/
abbrev NeedleNo := Fin 40

/-- A page of the pattern store (section 2.2). -/
abbrev PageNo := Fin 16

/-- An entry index within a page (section 2.3). -/
abbrev EntryNo := Fin 64

/-- A needle set number (R16). -/
abbrev SetNo := Fin 64

/-- A pattern id 1..32, held as the id less 1. -/
abbrev PatternId := Fin 32

/-- The pattern id as the manual numbers it, 1..32. -/
def PatternId.number (p : PatternId) : Nat := p.val + 1

/-- The three bars, in web order. -/
inductive Bar where
  | A
  | B
  | C
deriving DecidableEq, Repr

/-- The bars in the order in which rules take them in turn. -/
def Bar.all : List Bar := [.A, .B, .C]

/-- One value for each bar. -/
structure PerBar (α : Type) where
  a : α
  b : α
  c : α
deriving DecidableEq, Repr

/-- The value of one bar. -/
def PerBar.get {α : Type} (p : PerBar α) : Bar → α
  | .A => p.a
  | .B => p.b
  | .C => p.c

/-- The triple with the value of one bar replaced. -/
def PerBar.set {α : Type} (p : PerBar α) (bar : Bar) (v : α) : PerBar α :=
  match bar with
  | .A => { p with a := v }
  | .B => { p with b := v }
  | .C => { p with c := v }

/-- The same value for every bar. -/
def PerBar.const {α : Type} (v : α) : PerBar α := ⟨v, v, v⟩

/-- A function applied to the value of every bar. -/
def PerBar.map {α β : Type} (f : α → β) (p : PerBar α) : PerBar β := ⟨f p.a, f p.b, f p.c⟩

/-- A function applied to every element of a vector, written so that the kernel evaluates it. -/
def vectorMap {α β : Type} {n : Nat} (f : α → β) (v : Vector α n) : Vector β n :=
  ⟨(v.toList.map f).toArray, by simp⟩

end Sys2Proof
end

