-- ==== Sys2Proof/Config.lean ====
section
/-! DEFINITION. What the manual leaves open, as constants without a body, and the fixed sizes of the part. -/

namespace Sys2Proof.Config

/-- FREE VALUE. Whether the needle monitor takes a bar's scan request before its consumption notice when
both are still in flight at the bar's next stroke event. R91: "the monitor may take them in either order". -/
opaque scanRequestFirst : Nat → Bool

/-- FREE VALUE. Which message in flight a step with no command waiting takes, counted from the one sent
first and taken modulo the number in flight. The manual orders no two messages of different senders (R89). -/
opaque nextMessage : Nat → Nat

/-- The most live panel records the table holds (R39). -/
def maxRecords : Nat := 16

/-- The most steps the cursor walk takes at one stroke (R71). -/
def walkBudget : Nat := 8

/-- The most frames a bar's motif stack holds (R74). -/
def maxStack : Nat := 4

/-- The most entries one PTWRITE or PTREAD carries (R25, R34). -/
def maxRun : Nat := 29

/-- The longest payload of a frame (section 9.2). -/
def maxPayload : Nat := 240

end Sys2Proof.Config
end

