-- ==== Sys2Proof/Syntax.lean ====
section
/-! DEFINITION. The commands of the part: one constructor of `Instr` for each row of the table of operations
and events, and the messages some of them carry. -/

namespace Sys2Proof

/-- The new bar status a bar status message may carry (R51). -/
inductive StatusNews where
  | sewing
  | done
  | short
deriving DecidableEq, Repr

/-- A bar status message: the head of the panel, the bar, the new status (R51). -/
structure StatusMessage where
  bar : Bar
  head : Word
  news : StatusNews
deriving DecidableEq, Repr

/-- A defect notice: the head of the panel, the bar, the kinds and the position Y (R50). -/
structure DefectNotice where
  bar : Bar
  head : Word
  kinds : DefectSet
  y : Int
deriving DecidableEq, Repr

/-- A consumption notice: the bar, the stroke's advance, the select frame and its panel (R90). -/
structure ConsumptionNotice where
  bar : Bar
  advance : Int
  frame : NeedleSet
  panel : Option Word
deriving DecidableEq, Repr

/-- A scan request: the bar, whether the stroke is running, the expected set and its panel (R91). -/
structure ScanRequest where
  bar : Bar
  running : Bool
  expected : NeedleSet
  panel : Option Word
deriving DecidableEq, Repr

/-- The commands. A request carries the tag of its frame and the bytes of its payload (section 9.2); a row
that fixes part of the payload carries the rest. -/
inductive Instr where
  | powerOn
  | resetNLow
  | pinReset
  | countArrival (webA webB : Bool)
  | cutWindowExpiry (webA webB : Bool)
  | cutDone
  | freeze (asserted : Bool)
  | driveFault (bar : Bar) (asserted : Bool)
  | strokeEvent (bar : Bar)
  | selectEcho (bar : Bar) (echo : NeedleSet)
  | barStatusMessage (m : StatusMessage)
  | defectNotice (n : DefectNotice)
  | consumptionNotice (n : ConsumptionNotice)
  | scanRequest (r : ScanRequest)
  | retryCountdownExpiry (needle : NeedleNo) (r : ScanRequest)
  | scanDataArrival (bar : Bar) (channels : NeedleSet)
  | linkTransactionStart
  | frameError (bits : List Bool)
  | unknown (kind tag : Byte) (payload : List Byte)
  | nop (tag : Byte) (payload : List Byte)
  | ptopen (tag : Byte) (payload : List Byte)
  | ptwrite (tag : Byte) (payload : List Byte)
  | ptclose (tag : Byte) (payload : List Byte)
  | ptreopen (tag : Byte) (payload : List Byte)
  | ptdelete (tag : Byte) (payload : List Byte)
  | ptinfo (tag : Byte) (payload : List Byte)
  | ptinfoPageMap (tag : Byte)
  | ptread (tag : Byte) (payload : List Byte)
  | nswrite (tag : Byte) (payload : List Byte)
  | nsinfo (tag : Byte) (payload : List Byte)
  | pnadmit (tag : Byte) (payload : List Byte)
  | pnabort (tag : Byte) (payload : List Byte)
  | pninfo (tag : Byte) (payload : List Byte)
  | pninfoTable (tag : Byte)
  | pnlast (tag : Byte) (payload : List Byte)
  | brun (tag : Byte) (payload : List Byte)
  | bstop (tag : Byte) (payload : List Byte)
  | boverride (tag : Byte) (payload : List Byte)
  | brehearse (tag : Byte) (payload : List Byte)
  | binfo (tag : Byte) (payload : List Byte)
  | ndrearm (tag : Byte) (payload : List Byte)
  | ndrestore (tag : Byte) (payload : List Byte)
  | ndretire (tag : Byte) (payload : List Byte)
  | ndload (tag : Byte) (payload : List Byte)
  | ndinfo (tag : Byte) (payload : List Byte)
  | ndinfoBar (tag bar : Byte)
  | cfwrite (tag : Byte) (payload : List Byte)
  | cfwriteStarveDist (tag : Byte) (value : BitVec 32)
  | cfwriteRoomMark (tag : Byte) (value : BitVec 32)
  | cfwriteMissLimit (tag : Byte) (value : BitVec 32)
  | cfwriteBreakLimit (tag : Byte) (value : BitVec 32)
  | cfread (tag : Byte) (payload : List Byte)
  | cfreadAll (tag : Byte)
  | evread (tag : Byte) (payload : List Byte)
  | evack (tag : Byte) (payload : List Byte)
  | maskset (tag : Byte) (payload : List Byte)
  | maskclear (tag : Byte) (payload : List Byte)
  | posread (tag : Byte) (payload : List Byte)
  | lineclear (tag : Byte) (payload : List Byte)
  | strokeFall
  | cutDoneFall
deriving DecidableEq, Repr

end Sys2Proof
end

