-- ==== Sys2Proof/WellFormed.lean ====
section
/-! DEFINITION. When a command is one the outside can send: a payload fits a frame, a row that fixes part of
its payload is not spelt by the general row, and a message holds what its sender can put into it. -/

namespace Sys2Proof

/-- The request codes of the catalogue (section 9.6). -/
def catalogue : List Nat :=
  [0x00, 0x10, 0x11, 0x12, 0x13, 0x14, 0x15, 0x16, 0x18, 0x19, 0x20, 0x21, 0x22, 0x23, 0x30, 0x31, 0x32, 0x33,
    0x34, 0x40, 0x41, 0x42, 0x43, 0x44, 0x50, 0x51, 0x52, 0x53, 0x54, 0x55, 0x56, 0x57]

/-- A payload fits a frame (section 9.2). -/
def payloadFits (payload : List Byte) : Bool := payload.length ≤ Config.maxPayload

/-- A position Y is a signed 32-bit number (R5, R48). -/
def signed32 (y : Int) : Bool := -2147483648 ≤ y && y ≤ 2147483647

/-- A set with a member names the panel it sewed (R120, R125). -/
def panelNamed (set : NeedleSet) (panel : Option Word) : Bool := set = 0 || panel.isSome

/-- A notice carries at least one kind and a signed 32-bit Y (R50). -/
def DefectNotice.wf (n : DefectNotice) : Bool := n.kinds != 0 && signed32 n.y

/-- A consumption notice is of a NORMAL or LONG stroke, whose advance is at least 1 (R9, R90). -/
def ConsumptionNotice.wf (n : ConsumptionNotice) : Bool :=
  1 ≤ n.advance && signed32 n.advance && panelNamed n.frame n.panel

/-- A scan request's expected set names its panel (R91). -/
def ScanRequest.wf (r : ScanRequest) : Bool := panelNamed r.expected r.panel

/-- Whether a payload of CFWRITE belongs to one of the four rows of their own: STARVE_DIST 29, ROOM_MARK 30,
MISS_LIMIT 7, BREAK_LIMIT 8. -/
def cfwriteOwnRow (payload : List Byte) : Bool :=
  match payload with
  | [id, _, _, _, _] => id = 29 || id = 30 || id = 7 || id = 8
  | _ => false

/-- Whether a payload of NDINFO names needle 0xFF. -/
def ndinfoWhole (payload : List Byte) : Bool :=
  match payload with
  | [_, n] => n = 0xFF
  | _ => false

/-- The commands the outside can send. -/
def Instr.wf : Instr → Bool
  | .powerOn | .resetNLow | .pinReset | .countArrival .. | .cutWindowExpiry .. | .cutDone | .freeze ..
  | .driveFault .. | .strokeEvent .. | .selectEcho .. | .barStatusMessage .. | .scanDataArrival ..
  | .linkTransactionStart | .frameError .. | .strokeFall | .cutDoneFall => true
  | .defectNotice n => n.wf
  | .consumptionNotice n => n.wf
  | .scanRequest r => r.wf
  | .retryCountdownExpiry _ r => r.wf && r.running
  | .unknown kind _ payload => payloadFits payload && !catalogue.contains kind.toNat
  | .ptinfo _ payload => payloadFits payload && payload != [0]
  | .pninfo _ payload => payloadFits payload && payload != [0, 0]
  | .ndinfo _ payload => payloadFits payload && !ndinfoWhole payload
  | .cfwrite _ payload => payloadFits payload && !cfwriteOwnRow payload
  | .cfread _ payload => payloadFits payload && payload != [0]
  | .ptinfoPageMap .. | .pninfoTable .. | .ndinfoBar .. | .cfwriteStarveDist .. | .cfwriteRoomMark ..
  | .cfwriteMissLimit .. | .cfwriteBreakLimit .. | .cfreadAll .. => true
  | .nop _ p | .ptopen _ p | .ptwrite _ p | .ptclose _ p | .ptreopen _ p | .ptdelete _ p | .ptread _ p
  | .nswrite _ p | .nsinfo _ p | .pnadmit _ p | .pnabort _ p | .pnlast _ p | .brun _ p | .bstop _ p
  | .boverride _ p | .brehearse _ p | .binfo _ p | .ndrearm _ p | .ndrestore _ p | .ndretire _ p
  | .ndload _ p | .evread _ p | .evack _ p | .maskset _ p | .maskclear _ p | .posread _ p
  | .lineclear _ p => payloadFits p

end Sys2Proof
end

