-- ==== Sys2Proof/Decode.lean ====
section
/-! DEFINITION. From bits to commands. No row of the table has bits, so `decodeTableWord` finds no command in a
word. The request frames of the line link do have a layout (sections 9.1 to 9.3 and the catalogue of 9.6):
their reception, the frame check, the command a frame stands for, and the frame of a command. -/

namespace Sys2Proof

/-- The command a word spells by the bits of the table. The table gives no row any bits. -/
def decodeTableWord (_nbits _w : Nat) : Option Instr := none

/-! ### Bits and bytes (R157) -/

/-- The 8 bits of a byte, most significant first. -/
def byteBits (b : Byte) : List Bool :=
  [b.getLsbD 7, b.getLsbD 6, b.getLsbD 5, b.getLsbD 4, b.getLsbD 3, b.getLsbD 2, b.getLsbD 1, b.getLsbD 0]

/-- The bits of a run of bytes in the order in which they are clocked. -/
def bitsOf (bytes : List Byte) : List Bool := bytes.flatMap byteBits

/-- The byte that 8 bits spell, the first of them the most significant. -/
def byteOfBits (bits : List Bool) : Byte := bits.foldl (fun b x => (b <<< 1) ||| (if x then 1 else 0)) 0

/-- The whole bytes of a run of bits, grouped from the first; the bits of an incomplete last byte are discarded
(R157). -/
def wholeBytes : List Bool → List Byte
  | a :: b :: c :: d :: e :: f :: g :: h :: rest => byteOfBits [a, b, c, d, e, f, g, h] :: wholeBytes rest
  | _ => []

/-! ### The frame check (section 9.3) -/

/-- One of the eight steps of the division by x^8 + x^2 + x + 1 (R159). -/
def crcStep (r : Byte) : Byte := if r.getLsbD 7 then (r <<< 1) ^^^ 0x07 else r <<< 1

/-- One byte folded into the remainder (R159). -/
def crcFold (r b : Byte) : Byte :=
  crcStep (crcStep (crcStep (crcStep (crcStep (crcStep (crcStep (crcStep (r ^^^ b))))))))

/-- The check byte over a run of bytes (R159). -/
def crc8 (bytes : List Byte) : Byte := bytes.foldl crcFold 0

/-! ### Reception (section 9.2) -/

/-- What the whole bytes received in one transaction come to (R158, R159). -/
inductive Reception where
  | nothing
  | truncated
  | overlength
  | badCheck
  | frame (kind tag : Byte) (payload : List Byte)
deriving DecidableEq, Repr

/-- The reception of a transaction's whole bytes, with the frame check on or off (R158, R159, R161). Bytes
after a complete frame are fill. -/
def receive (linkCheck : Bool) (bytes : List Byte) : Reception :=
  match bytes with
  | [] => .nothing
  | kind :: tag :: len :: rest =>
    let n := len.toNat
    if Config.maxPayload < n then .overlength
    else if rest.length < n + 1 then .truncated
    else
      let payload := rest.take n
      if linkCheck && crc8 (kind :: tag :: len :: payload) != rest.getD n 0 then .badCheck
      else .frame kind tag payload
  | _ => .truncated

/-! ### Frames and commands (section 9.6) -/

/-- The 4 bytes of a value, most significant first (R166). -/
def valueBytes (v : BitVec 32) : List Byte :=
  [v.extractLsb' 24 8, v.extractLsb' 16 8, v.extractLsb' 8 8, v.extractLsb' 0 8]

/-- The value of 4 bytes, most significant first. -/
def valueOf (a b c d : Byte) : BitVec 32 := (((a ++ b) ++ c) ++ d : BitVec 32)

/-- The command of a CFWRITE frame: the rows of STARVE_DIST, ROOM_MARK, MISS_LIMIT and BREAK_LIMIT are commands
of their own. -/
def cfwriteCommand (tag : Byte) (payload : List Byte) : Instr :=
  match payload with
  | [id, a, b, c, d] =>
    if id = 29 then .cfwriteStarveDist tag (valueOf a b c d)
    else if id = 30 then .cfwriteRoomMark tag (valueOf a b c d)
    else if id = 7 then .cfwriteMissLimit tag (valueOf a b c d)
    else if id = 8 then .cfwriteBreakLimit tag (valueOf a b c d)
    else .cfwrite tag payload
  | _ => .cfwrite tag payload

/-- The command of an NDINFO frame: needle 0xFF is a command of its own. -/
def ndinfoCommand (tag : Byte) (payload : List Byte) : Instr :=
  match payload with
  | [bar, n] => if n = 0xFF then .ndinfoBar tag bar else .ndinfo tag payload
  | _ => .ndinfo tag payload

/-- The command a checked frame stands for (R163 and the catalogue). -/
def commandOf (kind tag : Byte) (payload : List Byte) : Instr :=
  match kind.toNat with
  | 0x00 => .nop tag payload
  | 0x10 => .ptopen tag payload
  | 0x11 => .ptwrite tag payload
  | 0x12 => .ptclose tag payload
  | 0x13 => .ptreopen tag payload
  | 0x14 => .ptdelete tag payload
  | 0x15 => if payload = [0] then .ptinfoPageMap tag else .ptinfo tag payload
  | 0x16 => .ptread tag payload
  | 0x18 => .nswrite tag payload
  | 0x19 => .nsinfo tag payload
  | 0x20 => .pnadmit tag payload
  | 0x21 => .pnabort tag payload
  | 0x22 => if payload = [0, 0] then .pninfoTable tag else .pninfo tag payload
  | 0x23 => .pnlast tag payload
  | 0x30 => .brun tag payload
  | 0x31 => .bstop tag payload
  | 0x32 => .boverride tag payload
  | 0x33 => .brehearse tag payload
  | 0x34 => .binfo tag payload
  | 0x40 => .ndrearm tag payload
  | 0x41 => .ndrestore tag payload
  | 0x42 => .ndretire tag payload
  | 0x43 => .ndload tag payload
  | 0x44 => ndinfoCommand tag payload
  | 0x50 => cfwriteCommand tag payload
  | 0x51 => if payload = [0] then .cfreadAll tag else .cfread tag payload
  | 0x52 => .evread tag payload
  | 0x53 => .evack tag payload
  | 0x54 => .maskset tag payload
  | 0x55 => .maskclear tag payload
  | 0x56 => .posread tag payload
  | 0x57 => .lineclear tag payload
  | _ => .unknown kind tag payload

/-- The kind, tag and payload of the frame that carries a request; absent for a command that is no request. -/
def frameOf : Instr → Option (Byte × Byte × List Byte)
  | .unknown kind tag p => some (kind, tag, p)
  | .nop tag p => some (0x00, tag, p)
  | .ptopen tag p => some (0x10, tag, p)
  | .ptwrite tag p => some (0x11, tag, p)
  | .ptclose tag p => some (0x12, tag, p)
  | .ptreopen tag p => some (0x13, tag, p)
  | .ptdelete tag p => some (0x14, tag, p)
  | .ptinfo tag p => some (0x15, tag, p)
  | .ptinfoPageMap tag => some (0x15, tag, [0])
  | .ptread tag p => some (0x16, tag, p)
  | .nswrite tag p => some (0x18, tag, p)
  | .nsinfo tag p => some (0x19, tag, p)
  | .pnadmit tag p => some (0x20, tag, p)
  | .pnabort tag p => some (0x21, tag, p)
  | .pninfo tag p => some (0x22, tag, p)
  | .pninfoTable tag => some (0x22, tag, [0, 0])
  | .pnlast tag p => some (0x23, tag, p)
  | .brun tag p => some (0x30, tag, p)
  | .bstop tag p => some (0x31, tag, p)
  | .boverride tag p => some (0x32, tag, p)
  | .brehearse tag p => some (0x33, tag, p)
  | .binfo tag p => some (0x34, tag, p)
  | .ndrearm tag p => some (0x40, tag, p)
  | .ndrestore tag p => some (0x41, tag, p)
  | .ndretire tag p => some (0x42, tag, p)
  | .ndload tag p => some (0x43, tag, p)
  | .ndinfo tag p => some (0x44, tag, p)
  | .ndinfoBar tag bar => some (0x44, tag, [bar, 0xFF])
  | .cfwrite tag p => some (0x50, tag, p)
  | .cfwriteStarveDist tag v => some (0x50, tag, 29 :: valueBytes v)
  | .cfwriteRoomMark tag v => some (0x50, tag, 30 :: valueBytes v)
  | .cfwriteMissLimit tag v => some (0x50, tag, 7 :: valueBytes v)
  | .cfwriteBreakLimit tag v => some (0x50, tag, 8 :: valueBytes v)
  | .cfread tag p => some (0x51, tag, p)
  | .cfreadAll tag => some (0x51, tag, [0])
  | .evread tag p => some (0x52, tag, p)
  | .evack tag p => some (0x53, tag, p)
  | .maskset tag p => some (0x54, tag, p)
  | .maskclear tag p => some (0x55, tag, p)
  | .posread tag p => some (0x56, tag, p)
  | .lineclear tag p => some (0x57, tag, p)
  | .powerOn | .resetNLow | .pinReset | .countArrival .. | .cutWindowExpiry .. | .cutDone | .freeze ..
  | .driveFault .. | .strokeEvent .. | .selectEcho .. | .barStatusMessage .. | .defectNotice ..
  | .consumptionNotice .. | .scanRequest .. | .retryCountdownExpiry .. | .scanDataArrival ..
  | .linkTransactionStart | .frameError .. | .strokeFall | .cutDoneFall => none

/-- The bytes of a request frame (section 9.2). -/
def frameBytes (kind tag : Byte) (payload : List Byte) : List Byte :=
  let body := [kind, tag, BitVec.ofNat 8 payload.length] ++ payload
  body ++ [crc8 body]

/-- The bytes of the frame that carries a request. -/
def encode (i : Instr) : Option (List Byte) := (frameOf i).map (fun f => frameBytes f.1 f.2.1 f.2.2)

/-- The command the bits of a transaction come to: the request of its frame, a frame error, or nothing
(R157, R158, R161). -/
def decodeFrame (linkCheck : Bool) (bits : List Bool) : Option Instr :=
  match receive linkCheck (wholeBytes bits) with
  | .frame kind tag payload => some (commandOf kind tag payload)
  | .nothing => none
  | _ => some (.frameError bits)

end Sys2Proof
end

