-- ==== Sys2Proof/Machine/State.lean ====
section
/-! DEFINITION. The state of the part, every piece the manual gives it, as plain data, and its value right
after power-on. The values after reset are those the rules cited state; where the manual leaves one to the
inputs, the assumption log names it. -/

namespace Sys2Proof.Machine

/-! ### Inputs -/

/-- The input levels as last taken. For the edge inputs and the encoder pair this is the level a later edge
or count is measured against (R2, R138, R171); FREEZE and DRIVE_FAULT_b are followed (R93, R104); `supply` says
that the supply is good, and `resetN` that RESET_N is high (R155, R172). -/
structure Inputs where
  webA : Bool
  webB : Bool
  stroke : Bool
  cutDone : Bool
  freeze : Bool
  driveFault : PerBar Bool
  supply : Bool
  resetN : Bool
deriving DecidableEq, Repr

/-! ### Configuration parameters -/

/-- The 32 configuration parameters of the table of section 9.7 (R165). -/
structure Params where
  offB : Nat
  offC : Nat
  offK : Nat
  skew : PerBar Nat
  missLimit : Nat
  breakLimit : Nat
  xMin : PerBar Int
  xMax : PerBar Int
  stepMax : PerBar Nat
  threadFactor : PerBar Nat
  slMin : Nat
  slMax : Nat
  probation : Nat
  retryGap : Nat
  retries : Nat
  threadReserve : Nat
  tailTie : Nat
  cutWindow : Nat
  starveDist : Nat
  roomMark : Nat
  linkCheck : Bool
  linkStop : Bool
deriving DecidableEq, Repr

/-- Every parameter at its default (section 9.7, R165). -/
def Params.default : Params where
  offB := 1800
  offC := 3600
  offK := 30000
  skew := .const 0
  missLimit := 3
  breakLimit := 4
  xMin := .const (-2000)
  xMax := .const 2000
  stepMax := .const 40
  threadFactor := .const 224
  slMin := 20
  slMax := 80
  probation := 10
  retryGap := 50
  retries := 2
  threadReserve := 500000
  tailTie := 4
  cutWindow := 500
  starveDist := 5000
  roomMark := 12
  linkCheck := true
  linkStop := false

/-! ### Pattern store -/

/-- A segment entry (section 2.3); `fin` is END. -/
inductive SegEntry where
  | empty
  | line (set : SetNo) (dy : Nat) (dx : Int)
  | lock (set : SetNo) (n : Nat) (amplitude : Int)
  | call (motif : PatternId) (repeats : Nat)
  | fin
  | link (page : PageNo)
deriving DecidableEq, Repr

/-- The states of a pattern record (R20). -/
inductive PatternState where
  | empty
  | opened
  | closed
deriving DecidableEq, Repr

/-- A pattern record (section 2.2). The pages a pattern owns are read from `Store.owner`. -/
structure PatternRecord where
  state : PatternState
  home : Option PageNo
  endless : Bool
  useCount : Nat
deriving DecidableEq, Repr

/-- An EMPTY pattern record (R20). -/
def PatternRecord.blank : PatternRecord where
  state := .empty
  home := none
  endless := false
  useCount := 0

/-- A needle set with its reference count (R16, R17). -/
structure NeedleSetRecord where
  members : NeedleSet
  refCount : Nat
deriving DecidableEq, Repr

/-- The pattern store (chapter 2). -/
structure Store where
  entries : Vector (Vector SegEntry 64) 16
  owner : Vector (Option PatternId) 16
  patterns : Vector PatternRecord 32
  sets : Vector NeedleSetRecord 64
deriving DecidableEq, Repr

/-- A page of EMPTY entries (R21). -/
def Store.blankPage : Vector SegEntry 64 := Vector.replicate 64 .empty

/-- The store after power-on and pin reset (R16, R17, R20, R21). -/
def Store.reset : Store where
  entries := Vector.replicate 16 Store.blankPage
  owner := Vector.replicate 16 none
  patterns := Vector.replicate 32 PatternRecord.blank
  sets := Vector.replicate 64 { members := 0, refCount := 0 }

/-! ### Panel table -/

/-- The fourteen defect kinds, in the order of their numbers (section 3.7). -/
inductive DefectKind where
  | longStitch
  | travelClamp
  | lag
  | segOverrun
  | motifDepth
  | tieShort
  | selectLate
  | needleBreak
  | threadOut
  | barShort
  | barSkipped
  | rehearsed
  | cutMissed
  | aborted
deriving DecidableEq, Repr

/-- The defect policy of a panel. -/
inductive Policy where
  | mark
  | stop
deriving DecidableEq, Repr

/-- A bar's status in a panel record (section 3.1); `absent` is NONE. -/
inductive BarStatus where
  | absent
  | notReached
  | sewing
  | done
  | short
  | skipped
deriving DecidableEq, Repr

/-- What a panel record holds for one bar (section 3.1). -/
structure PanelBar where
  pattern : Option PatternId
  origin : Int
  widthSet : Option SetNo
  status : BarStatus
  defects : DefectSet
deriving DecidableEq, Repr

/-- The first defect of a panel: a kind, a bar that may be absent, and the position Y. -/
structure FirstDefect where
  kind : DefectKind
  bar : Option Bar
  y : Int
deriving DecidableEq, Repr

/-- A panel record (section 3.1); `cutPending` is the cut state PENDING. -/
structure PanelRecord where
  tag : BitVec 16
  head : Word
  length : Nat
  tailMargin : Nat
  policy : Policy
  bars : PerBar PanelBar
  defects : DefectSet
  notices : Nat
  first : Option FirstDefect
  aborted : Bool
  cutPending : Bool
deriving DecidableEq, Repr

/-- The panel table: the live records, oldest first, and the stored starvation state (R39, R55). -/
structure PanelTable where
  records : List PanelRecord
  starving : Bool
deriving DecidableEq, Repr

/-- The four position phases (R40). -/
inductive Phase where
  | waiting
  | inWork
  | cleared
  | due
deriving DecidableEq, Repr

/-! ### Cutter sequence -/

/-- The cutter states (R134). -/
inductive CutterState where
  | idle
  | requesting
  | rearming
deriving DecidableEq, Repr

/-- The outcomes of a retirement (R142). -/
inductive CutOutcome where
  | cut
  | window
  | forced
deriving DecidableEq, Repr

/-- What a retirement summary keeps of one bar (R143). -/
structure SummaryBar where
  pattern : Option PatternId
  status : BarStatus
  defects : DefectSet
deriving DecidableEq, Repr

/-- The summary of one retired record (R143). -/
structure Summary where
  tag : BitVec 16
  head : Word
  length : Nat
  policy : Policy
  aborted : Bool
  bars : PerBar SummaryBar
  defects : DefectSet
  notices : Nat
  first : Option FirstDefect
  outcome : CutOutcome
  w : Word
deriving DecidableEq, Repr

/-- The cutter sequence (section 7.1). -/
structure Cutter where
  state : CutterState
  pendingHead : Option Word
  lastRetired : Option Summary
  retirements : BitVec 16
deriving DecidableEq, Repr

/-- The cutter sequence after power-on and pin reset (R146). -/
def Cutter.reset : Cutter where
  state := .idle
  pendingHead := none
  lastRetired := none
  retirements := 0

/-! ### Bar contexts -/

/-- The class of a stroke (R8, R9, R10). -/
inductive StrokeClass where
  | unclassified
  | reverse
  | stall
  | normal
  | long
deriving DecidableEq, Repr

/-- A bar's reference for stroke classification (section 1.4): W_last, and the class and advance of its
last stroke. -/
structure Reference where
  last : Option Word
  strokeClass : StrokeClass
  advance : Int
deriving DecidableEq, Repr

/-- The reference after power-on, pin reset and LINECLEAR (R13, R14). -/
def Reference.reset : Reference where
  last := none
  strokeClass := .unclassified
  advance := 0

/-- A bar's run state (R92). -/
inductive RunState where
  | stopped
  | running
deriving DecidableEq, Repr

/-- A pending run or stop (R95). -/
inductive RunRequest where
  | run
  | stop
deriving DecidableEq, Repr

/-- The latched halt reasons of a bar (R94). -/
structure Latched where
  select : Bool
  defect : Bool
  encoder : Bool
  link : Bool
deriving DecidableEq, Repr

/-- No reason latched. -/
def Latched.clear : Latched := ⟨false, false, false, false⟩

/-- A frame sent on a latch chain, with the head of the panel it sews when there is one (R91, R105). -/
structure SentFrame where
  needles : NeedleSet
  panel : Option Word
deriving DecidableEq, Repr

/-- The frame of a stroke that sent none (R91). -/
def SentFrame.blank : SentFrame := ⟨0, none⟩

/-- The control fields of a bar context (chapter 5). `driveCommand` is the lateral command last sent on the
bar's shift-drive link (R103). -/
structure Control where
  run : RunState
  pendingRun : Option RunRequest
  latched : Latched
  requested : Bool
  override : NeedleSet
  pendingOverride : Option NeedleSet
  rehearsal : Bool
  pendingRehearsal : Option Bool
  transfer : Option SentFrame
  driveCommand : Option (BitVec 16)
deriving DecidableEq, Repr

/-- The control fields after power-on and pin reset (R109). -/
def Control.reset : Control where
  run := .stopped
  pendingRun := none
  latched := .clear
  requested := false
  override := 0
  pendingOverride := none
  rehearsal := false
  pendingRehearsal := none
  transfer := none
  driveCommand := none

/-- Whether a bar is in its current panel or has passed its end (section 4.1). -/
inductive Presence where
  | inside
  | left
deriving DecidableEq, Repr

/-- A bar's current panel (section 4.1). -/
structure CurrentPanel where
  head : Word
  presence : Presence
deriving DecidableEq, Repr

/-- A pattern cursor (section 4.1). -/
structure Cursor where
  pattern : PatternId
  page : PageNo
  index : EntryNo
deriving DecidableEq, Repr

/-- A frame of the motif stack (R74). -/
structure MotifFrame where
  returnPage : PageNo
  returnIndex : EntryNo
  remaining : Nat
  motif : PatternId
deriving DecidableEq, Repr

/-- Whether a bar is in the tail zone, and how many tie strokes it has made there (R77, R78). -/
inductive TailState where
  | outside
  | tie (done : Nat)
deriving DecidableEq, Repr

/-- What a bar's latest stroke did (R70); `untaken` is NONE. -/
inductive StrokeOutcome where
  | untaken
  | stopped
  | gap
  | idle
  | held
  | placed
  | overrun
  | finished
  | tie
  | postTie
deriving DecidableEq, Repr

/-- The placement fields of a bar context (section 4.1). The motif stack is held innermost first. -/
structure Place where
  current : Option CurrentPanel
  stoppedInPanel : Bool
  lastY : Int
  cursor : Option Cursor
  ys : Int
  ps : Int
  lockCount : Nat
  tail : TailState
  finished : Bool
  stack : List MotifFrame
  p : Int
  x : Int
  engaged : NeedleSet
  previous : SentFrame
  outcome : StrokeOutcome
deriving DecidableEq, Repr

/-- The placement fields after power-on and pin reset (R63). -/
def Place.reset : Place where
  current := none
  stoppedInPanel := false
  lastY := 0
  cursor := none
  ys := 0
  ps := 0
  lockCount := 0
  tail := .outside
  finished := false
  stack := []
  p := 0
  x := 0
  engaged := 0
  previous := .blank
  outcome := .untaken

/-- The context of one bar. -/
structure BarContext where
  reference : Reference
  control : Control
  place : Place
deriving DecidableEq, Repr

/-- A bar context after power-on and pin reset (R13, R63, R109). -/
def BarContext.reset : BarContext := ⟨.reset, .reset, .reset⟩

/-! ### Needle monitor -/

/-- The five needle states (R111). -/
inductive NeedleState where
  | ready
  | broken
  | probation
  | retired
  | threadOut
deriving DecidableEq, Repr

/-- A needle record (section 6.1). -/
structure NeedleRecord where
  state : NeedleState
  misses : Nat
  breaks : Nat
  thread : Nat
  lowWarned : Bool
  progress : Nat
  countdown : Option Nat
  retries : Nat
deriving DecidableEq, Repr

/-- A needle record after power-on and pin reset (R112). -/
def NeedleRecord.reset : NeedleRecord where
  state := .threadOut
  misses := 0
  breaks := 0
  thread := 0
  lowWarned := false
  progress := 0
  countdown := none
  retries := 0

/-- A scan in flight: the expected set and the head of the panel it sewed (section 6.2). -/
structure Scan where
  expected : NeedleSet
  panel : Option Word
deriving DecidableEq, Repr

/-- The sensor chain of a bar: not clocked, clocked for the scan in flight, or clocked to its end after LINECLEAR has
abandoned that scan (R113, R133). -/
inductive SensorChain where
  | atRest
  | scanning (scan : Scan)
  | abandoned
deriving DecidableEq, Repr

/-- The scan in flight (R113). -/
def SensorChain.scan : SensorChain → Option Scan
  | .scanning scan => some scan
  | .atRest => none
  | .abandoned => none

/-! ### Attention unit -/

/-- The eighteen sticky sources in ascending number (section 8.1). -/
inductive Sticky where
  | restarted
  | linkErr
  | encoderFault
  | starve
  | panelRetired
  | cutMissed
  | cutStray
  | panelDefect
  | defectStop
  | barHalted
  | selectFault
  | selectLate
  | scanLate
  | needleBroken
  | needleRetired
  | probationPassed
  | threadLow
  | threadOut
deriving DecidableEq, Repr

/-- The restart causes (R155). -/
inductive RestartCause where
  | power
  | pin
deriving DecidableEq, Repr

/-- The link error kinds (R161). -/
inductive LinkError where
  | check
  | truncated
  | overlength
deriving DecidableEq, Repr

/-- The details of the sticky sources (R148). -/
inductive Detail where
  | restart (cause : RestartCause)
  | linkError (kind : LinkError)
  | tag (tag : BitVec 16)
  | bar (bar : Bar)
  | needle (bar : Bar) (needle : NeedleNo)
deriving DecidableEq, Repr

/-- A sticky source: raise count and detail slot (R147). -/
structure EventSlot where
  count : Nat
  detail : Option Detail
deriving DecidableEq, Repr

/-- A source never raised since the restart (R155). -/
def EventSlot.clear : EventSlot := ⟨0, none⟩

/-- The sticky sources right after a restart: RESTARTED raised once with the cause, the others clear (R155). -/
def eventsAtStart (cause : RestartCause) : Vector EventSlot 18 :=
  (Vector.replicate 18 EventSlot.clear).set 0 ⟨1, some (.restart cause)⟩

/-- The four masks at their defaults (R151). -/
def defaultMasks : Vector SourceSet 4 := #v[0x1FFFC7, 0x002904, 0x1B0000, 0x000020]

/-! ### Line link port -/

/-- The status codes (section 9.6). -/
inductive Status where
  | ok
  | busy
  | full
  | dupTag
  | noSuch
  | range
  | inUse
  | state
  | pageOwned
  | badEntry
  | badLink
  | badCall
  | badLoop
  | order
  | headPassed
  | tooFar
  | halted
  | unknown
  | length
  | frameError
deriving DecidableEq, Repr

/-- A response frame without its length and check bytes, which are computed (section 9.2). -/
structure Response where
  kind : Byte
  tag : Byte
  status : Status
  payload : List Byte
deriving DecidableEq, Repr

/-- The idle response (R160). -/
def Response.idle : Response := ⟨0, 0, .ok, []⟩

/-- Where the port stands in a transaction: LK_SEL high; a transaction open with no frame taken yet; a
transaction whose frame has been executed, LK_SEL still low and all it still receives fill; or a transaction the port
ignores because it began before operation started (R157). -/
inductive LinkPhase where
  | idle
  | opened
  | answered
  | ignored
deriving DecidableEq, Repr

/-- The line link port: the response slot, the frame taken for output at the last fall of LK_SEL, and where
it stands in a transaction (R157, R160). -/
structure LinkPort where
  slot : Response
  output : Response
  phase : LinkPhase
deriving DecidableEq, Repr

/-- The port after power-on and pin reset (R160). DESIGN CHOICE for the frame taken for output and the level
of LK_SEL (log 10). Unsafe. -/
def LinkPort.reset : LinkPort := ⟨.idle, .idle, .idle⟩

/-! ### Messages between blocks -/

/-- A message one block has sent another, not yet taken (R51, R50, R90, R91, R120, R125). -/
inductive Message where
  | status (m : StatusMessage)
  | notice (n : DefectNotice)
  | consumption (n : ConsumptionNotice)
  | scan (r : ScanRequest)
deriving DecidableEq, Repr

/-! ### The state -/

/-- The state of the part. `pending`, `messages`, `strokesDue` and `choices` are the model's own: the queue of
commands, the messages in flight between blocks, the strokes each bar has still to take of the pulses that
have risen (R171), and how many open choices have been made. -/
structure State where
  pending : List Instr
  inputs : Inputs
  w : Word
  params : Params
  store : Store
  table : PanelTable
  cutter : Cutter
  bars : PerBar BarContext
  needles : PerBar (Vector NeedleRecord 40)
  scans : PerBar SensorChain
  events : Vector EventSlot 18
  masks : Vector SourceSet 4
  link : LinkPort
  messages : List Message
  strokesDue : PerBar Nat
  choices : Nat
deriving DecidableEq, Repr

/-- Why a command stops the part. No command does, so there is no constructor: every trouble the manual
describes is an effect on the state (a halt reason, an event, a response status). -/
inductive Fault where
deriving DecidableEq, Repr

/-- Why a command has no outcome. -/
inductive Refusal where
  /-- Raised by `exec` alone, for a command of the table that has no meaning yet. Safe: no claim can be
  proved about such a command. -/
  | notModelled (mnemonic : String)
deriving DecidableEq, Repr

/-- What an owning block answers to a request: the state after it, the status and the payload of the
response (R163). -/
structure Answer where
  state : State
  status : Status
  payload : List Byte
deriving DecidableEq, Repr

/-- All inputs low or released, RESET_N high (log 11). DESIGN CHOICE, unsafe. The supply is good (log 29). DESIGN
CHOICE, safe. -/
def Inputs.quiet : Inputs where
  webA := false
  webB := false
  stroke := false
  cutDone := false
  freeze := false
  driveFault := .const false
  supply := true
  resetN := true

/-- The part right after power-on, with every input quiet (R13, R37, R59, R63, R109, R112, R146, R155, R160,
R165). DESIGN CHOICE (log 12, 24). Safe. -/
def State.reset : State where
  pending := []
  inputs := .quiet
  w := 0
  params := .default
  store := .reset
  table := ⟨[], false⟩
  cutter := .reset
  bars := .const .reset
  needles := .const (Vector.replicate 40 .reset)
  scans := .const .atRest
  events := eventsAtStart .power
  masks := defaultMasks
  link := .reset
  messages := []
  strokesDue := .const 0
  choices := 0

end Sys2Proof.Machine
end

