-- ==== Sys2Proof/Machine/Operands.lean ====
section
/-! DEFINITION. The fields of request and response payloads: bytes to numbers and back, the codes of the
named values, the layout of a segment entry, and the bytes of a response frame. -/

namespace Sys2Proof.Machine

/-! ### Numbers and bytes, most significant byte first ("Byte order") -/

/-- A number as one byte. -/
def byte (n : Nat) : Byte := BitVec.ofNat 8 n

/-- A number as `k` bytes, most significant first. -/
def bytesOf : Nat → Nat → List Byte
  | 0, _ => []
  | k + 1, n => byte (n / 256 ^ k) :: bytesOf k n

/-- A signed number as 4 bytes in two's complement. -/
def signed4 (i : Int) : List Byte := bytesOf 4 (BitVec.ofInt 32 i).toNat

/-- A signed number as 2 bytes in two's complement. -/
def signed2 (i : Int) : List Byte := bytesOf 2 (BitVec.ofInt 16 i).toNat

/-- A web position as 4 bytes. -/
def bytesOfWord (w : Word) : List Byte := bytesOf 4 w.toNat

/-- The bytes of an optional web position: 0 when absent. -/
def bytesOfHead (h : Option Word) : List Byte := bytesOfWord (h.getD 0)

/-- A flag as one byte, 1 for yes. -/
def flag (b : Bool) : Byte := if b then 1 else 0

/-- The number a run of bytes spells, most significant first. -/
def numberOf (bytes : List Byte) : Nat := bytes.foldl (fun n b => n * 256 + b.toNat) 0

/-- The number in `len` payload bytes from offset `at_`. -/
def field (payload : List Byte) (at_ len : Nat) : Nat := numberOf ((payload.drop at_).take len)

/-- The number in one payload byte. -/
def fieldByte (payload : List Byte) (at_ : Nat) : Nat := field payload at_ 1

/-- The signed number in two payload bytes. -/
def fieldSigned2 (payload : List Byte) (at_ : Nat) : Int := (BitVec.ofNat 16 (field payload at_ 2)).toInt

/-- The signed number in four payload bytes. -/
def fieldSigned4 (payload : List Byte) (at_ : Nat) : Int := (BitVec.ofNat 32 (field payload at_ 4)).toInt

/-! ### Codes of named values -/

/-- The bar a code names: A 0, B 1, C 2. -/
def barOf? : Nat → Option Bar
  | 0 => some .A
  | 1 => some .B
  | 2 => some .C
  | _ => none

/-- The code of a bar. -/
def barNumber : Bar → Byte
  | .A => 0
  | .B => 1
  | .C => 2

/-- The code of an optional bar, 0xFF when absent (R48). -/
def barCode : Option Bar → Byte
  | some b => barNumber b
  | none => 0xFF

/-- A pattern id 1..32 from its number. -/
def patternOf? (n : Nat) : Option PatternId :=
  if h : 1 ≤ n ∧ n ≤ 32 then some ⟨n - 1, by omega⟩ else none

/-- A page 0..15 from its number. -/
def pageOf? (n : Nat) : Option PageNo := if h : n < 16 then some ⟨n, h⟩ else none

/-- An entry index 0..63 from its number. -/
def indexOf? (n : Nat) : Option EntryNo := if h : n < 64 then some ⟨n, h⟩ else none

/-- A needle set number 0..63 from its number. -/
def setOf? (n : Nat) : Option SetNo := if h : n < 64 then some ⟨n, h⟩ else none

/-- A needle number 0..39 from its number. -/
def needleOf? (n : Nat) : Option NeedleNo := if h : n < 40 then some ⟨n, h⟩ else none

/-- The code of an optional pattern, 0 for absent. -/
def patternCode : Option PatternId → Byte
  | some p => byte p.number
  | none => 0

/-- The code of an optional width set, 0xFF for absent. -/
def widthCode : Option SetNo → Byte
  | some w => byte w.val
  | none => 0xFF

/-- The pattern state codes of R32. -/
def PatternState.code : PatternState → Byte
  | .empty => 0
  | .opened => 1
  | .closed => 2

/-- The policy codes of R42. -/
def Policy.code : Policy → Byte
  | .mark => 0
  | .stop => 1

/-- The phase codes of R48. -/
def Phase.code : Phase → Byte
  | .waiting => 0
  | .inWork => 1
  | .cleared => 2
  | .due => 3

/-- The bar status codes of R48. -/
def BarStatus.code : BarStatus → Byte
  | .absent => 0
  | .notReached => 1
  | .sewing => 2
  | .done => 3
  | .short => 4
  | .skipped => 5

/-- The number of a defect kind (section 3.7). -/
def DefectKind.number : DefectKind → Nat
  | .longStitch => 0
  | .travelClamp => 1
  | .lag => 2
  | .segOverrun => 3
  | .motifDepth => 4
  | .tieShort => 5
  | .selectLate => 6
  | .needleBreak => 7
  | .threadOut => 8
  | .barShort => 9
  | .barSkipped => 10
  | .rehearsed => 11
  | .cutMissed => 12
  | .aborted => 13

/-- Every defect kind, in ascending number. -/
def DefectKind.all : List DefectKind :=
  [.longStitch, .travelClamp, .lag, .segOverrun, .motifDepth, .tieShort, .selectLate, .needleBreak,
    .threadOut, .barShort, .barSkipped, .rehearsed, .cutMissed, .aborted]

/-- The set of one defect kind. -/
def DefectKind.bit (k : DefectKind) : DefectSet := BitVec.twoPow 14 k.number

/-- The lowest-numbered kind of a set, when it holds one (R52). -/
def lowestKind (kinds : DefectSet) : Option DefectKind :=
  DefectKind.all.find? (fun k => kinds.getLsbD k.number)

/-- The cutter state codes of R144. -/
def CutterState.code : CutterState → Byte
  | .idle => 0
  | .requesting => 1
  | .rearming => 2

/-- The outcome codes of R144. -/
def CutOutcome.code : CutOutcome → Byte
  | .cut => 0
  | .window => 1
  | .forced => 2

/-- The stroke class codes of R12. -/
def StrokeClass.code : StrokeClass → Byte
  | .unclassified => 0
  | .reverse => 1
  | .stall => 2
  | .normal => 3
  | .long => 4

/-- The run state codes of R97. -/
def RunState.code : RunState → Byte
  | .stopped => 0
  | .running => 1

/-- The codes of a pending run or stop (R97). -/
def pendingRunCode : Option RunRequest → Byte
  | none => 0
  | some .run => 1
  | some .stop => 2

/-- The codes of a pending rehearsal change (R108): absent 0, ON 1, OFF 2. -/
def pendingRehearsalCode : Option Bool → Byte
  | none => 0
  | some true => 1
  | some false => 2

/-- The presence codes of R108. -/
def presenceCode : Option CurrentPanel → Byte
  | none => 0
  | some ⟨_, .inside⟩ => 1
  | some ⟨_, .left⟩ => 2

/-- The tail state codes of R108. -/
def TailState.code : TailState → Byte
  | .outside => 0xFF
  | .tie n => byte n

/-- The stroke outcome codes of R108. -/
def StrokeOutcome.code : StrokeOutcome → Byte
  | .untaken => 0
  | .stopped => 1
  | .gap => 2
  | .idle => 3
  | .held => 4
  | .placed => 5
  | .overrun => 6
  | .finished => 7
  | .tie => 8
  | .postTie => 9

/-- The needle state codes of R130. -/
def NeedleState.code : NeedleState → Byte
  | .ready => 0
  | .broken => 1
  | .probation => 2
  | .retired => 3
  | .threadOut => 4

/-- The status codes of section 9.6. -/
def Status.code : Status → Byte
  | .ok => 0x00
  | .busy => 0x01
  | .full => 0x02
  | .dupTag => 0x03
  | .noSuch => 0x04
  | .range => 0x05
  | .inUse => 0x06
  | .state => 0x07
  | .pageOwned => 0x08
  | .badEntry => 0x09
  | .badLink => 0x0A
  | .badCall => 0x0B
  | .badLoop => 0x0C
  | .order => 0x0D
  | .headPassed => 0x0E
  | .tooFar => 0x0F
  | .halted => 0x10
  | .unknown => 0x11
  | .length => 0x12
  | .frameError => 0x13

/-- The 2 bytes of a detail (R148). -/
def Detail.bytes : Detail → List Byte
  | .restart .power => [0, 0]
  | .restart .pin => [0, 1]
  | .linkError .check => [0, 0]
  | .linkError .truncated => [0, 1]
  | .linkError .overlength => [0, 2]
  | .tag t => bytesOf 2 t.toNat
  | .bar b => [barNumber b, 0xFF]
  | .needle b n => [barNumber b, byte n.val]

/-! ### Sets on the link -/

/-- A set of needle numbers as 5 bytes (R108). -/
def setBytes (s : NeedleSet) : List Byte := bytesOf 5 s.toNat

/-- Every needle number in ascending order. -/
def allNeedles : List NeedleNo := List.finRange 40

/-- The members of a needle set in ascending order (R19). -/
def members (s : NeedleSet) : List NeedleNo := allNeedles.filter (fun n => s.getLsbD n.val)

/-- The set of one needle. -/
def needleBit (n : Nat) : NeedleSet := BitVec.twoPow 40 n

/-- The set of the needle numbers carried in a run of bytes; a number given twice counts once (R18, R99). -/
def needleSetOf (numbers : List Byte) : NeedleSet :=
  numbers.foldl (fun s b => s ||| needleBit b.toNat) 0

/-! ### Segment entries (section 2.3.1) -/

/-- The 8 bytes of an entry (R24). -/
def SegEntry.bytes : SegEntry → List Byte
  | .empty => [0x00, 0, 0, 0, 0, 0, 0, 0]
  | .line set dy dx => [0x01, byte set.val] ++ bytesOf 2 dy ++ signed2 dx ++ [0, 0]
  | .lock set n a => [0x02, byte set.val, byte n, 0] ++ signed2 a ++ [0, 0]
  | .call motif r => [0x03, byte motif.number, byte r, 0, 0, 0, 0, 0]
  | .fin => [0x04, 0, 0, 0, 0, 0, 0, 0]
  | .link page => [0x05, byte page.val, 0, 0, 0, 0, 0, 0]

/-- The ranges of an entry's fields (section 2.3, R23). -/
def SegEntry.wf : SegEntry → Bool
  | .empty => true
  | .line _ dy dx => 1 ≤ dy && dy ≤ 65535 && -32767 ≤ dx && dx ≤ 32767
  | .lock _ n a => 1 ≤ n && n ≤ 15 && -255 ≤ a && a ≤ 255
  | .call _ r => 1 ≤ r && r ≤ 255
  | .fin => true
  | .link _ => true

/-- The fields the bytes of an entry hold, before the ranges are checked: a known kind with its set, motif
or page number in range. -/
def SegEntry.read? (bytes : List Byte) : Option SegEntry :=
  let second := fieldByte bytes 1
  match fieldByte bytes 0 with
  | 0 => some .empty
  | 1 => (setOf? second).map (fun s => .line s (field bytes 2 2) (fieldSigned2 bytes 4))
  | 2 => (setOf? second).map (fun s => .lock s (fieldByte bytes 2) (fieldSigned2 bytes 4))
  | 3 => (patternOf? second).map (fun m => .call m (fieldByte bytes 2))
  | 4 => some .fin
  | 5 => (pageOf? second).map (fun p => .link p)
  | _ => none

/-- The entry 8 bytes spell, absent when malformed: an unknown kind, a field out of range, or a byte its
kind leaves unused that is not 0 (R23, R24). The last is said by comparing with the layout. -/
def SegEntry.of? (bytes : List Byte) : Option SegEntry :=
  match SegEntry.read? bytes with
  | some e => if e.wf && e.bytes = bytes then some e else none
  | none => none

/-- A payload cut into runs of 8 bytes, `c` of them. -/
def entryChunks : Nat → List Byte → List (List Byte)
  | 0, _ => []
  | c + 1, bytes => bytes.take 8 :: entryChunks c (bytes.drop 8)

/-! ### Response frames (section 9.2) -/

/-- The bytes of a response frame (section 9.2). -/
def Response.bytes (r : Response) : List Byte :=
  let body := [r.kind, r.tag, r.status.code, byte r.payload.length] ++ r.payload
  body ++ [crc8 body]

end Sys2Proof.Machine
end

