-- ==== Sys2Proof/Machine/Flags.lean ====
section
/-! DEFINITION. When the part operates, and the attention unit: raising and reading the event sources, the level
sources, and the four attention lines (chapter 8). -/

namespace Sys2Proof.Machine

/-- Whether the part operates: the supply is good and RESET_N is not held low (R155, R172). -/
def Inputs.operates (i : Inputs) : Bool := i.supply && i.resetN

/-- Every sticky source in ascending number (section 8.1). -/
def Sticky.all : List Sticky :=
  [.restarted, .linkErr, .encoderFault, .starve, .panelRetired, .cutMissed, .cutStray, .panelDefect,
    .defectStop, .barHalted, .selectFault, .selectLate, .scanLate, .needleBroken, .needleRetired,
    .probationPassed, .threadLow, .threadOut]

/-- The place of a sticky source among the eighteen. -/
def Sticky.index : Sticky → Fin 18
  | .restarted => 0
  | .linkErr => 1
  | .encoderFault => 2
  | .starve => 3
  | .panelRetired => 4
  | .cutMissed => 5
  | .cutStray => 6
  | .panelDefect => 7
  | .defectStop => 8
  | .barHalted => 9
  | .selectFault => 10
  | .selectLate => 11
  | .scanLate => 12
  | .needleBroken => 13
  | .needleRetired => 14
  | .probationPassed => 15
  | .threadLow => 16
  | .threadOut => 17

/-- The number of a sticky source; FREEZE, DRIVE_FAULT and ROOM are numbers 3, 4 and 5 (section 8.1). -/
def Sticky.number (e : Sticky) : Nat := if e.index.val < 3 then e.index.val else e.index.val + 3

/-- The slot of a sticky source. -/
def State.event (s : State) (e : Sticky) : EventSlot := s.events[e.index]

/-- The state with the slot of a sticky source replaced. -/
def State.setEvent (s : State) (e : Sticky) (slot : EventSlot) : State :=
  { s with events := s.events.set e.index slot }

/-- A source raised once: the count rises to at most 255, and a detail given replaces the one held (R147). -/
def EventSlot.raise (slot : EventSlot) (detail : Option Detail) : EventSlot where
  count := min (slot.count + 1) 255
  detail := detail.or slot.detail

/-- Raising a sticky source (R147). -/
def State.raise (s : State) (e : Sticky) (detail : Option Detail) : State :=
  s.setEvent e ((s.event e).raise detail)

/-- Raising a source when a condition holds. -/
def State.raiseIf (s : State) (c : Bool) (e : Sticky) (detail : Option Detail) : State :=
  if c then s.raise e detail else s

/-- Whether the flag of a sticky source is set (R147). -/
def State.flagSet (s : State) (e : Sticky) : Bool := 0 < (s.event e).count

/-- The level source ROOM (R57, R149). -/
def State.room (s : State) : Bool := s.table.records.length ≤ s.params.roomMark

/-- Whether any DRIVE_FAULT input is asserted (R149). -/
def State.anyDriveFault (s : State) : Bool :=
  s.inputs.driveFault.a || s.inputs.driveFault.b || s.inputs.driveFault.c

/-- The set of the sticky sources whose flag is set (R153). -/
def State.stickyFlags (s : State) : SourceSet :=
  Sticky.all.foldl (fun f e => if s.flagSet e then f ||| BitVec.twoPow 21 e.number else f) 0

/-- The set of the level sources whose condition is true (R153). -/
def State.levelFlags (s : State) : SourceSet :=
  (if s.inputs.freeze then BitVec.twoPow 21 3 else 0)
    ||| (if s.anyDriveFault then BitVec.twoPow 21 4 else 0)
    ||| (if s.room then BitVec.twoPow 21 5 else 0)

/-- Whether an attention line is asserted: the part operates, and some source of its mask is set
(R150, R155). -/
def State.attentionLine (s : State) (n : Fin 4) : Bool :=
  s.inputs.operates && (s.masks[n] &&& (s.stickyFlags ||| s.levelFlags)) != 0

/-- The states of the four lines as a set value, ATTNn counted as 2^n (R152). -/
def State.lineStates (s : State) : Byte :=
  (if s.attentionLine 0 then 1 else 0) ||| (if s.attentionLine 1 then 2 else 0)
    ||| (if s.attentionLine 2 then 4 else 0) ||| (if s.attentionLine 3 then 8 else 0)

/-- The 3 bytes of a set of sources (R152). -/
def sourceBytes (f : SourceSet) : List Byte := bytesOf 3 f.toNat

/-- The flags of the attention unit after acknowledging a set of sources: the raise count of each sticky
source named becomes 0, the details stay (R154). -/
def State.acknowledge (s : State) (named : SourceSet) : State :=
  Sticky.all.foldl
    (fun t e => if named.getLsbD e.number then t.setEvent e ⟨0, (t.event e).detail⟩ else t) s

end Sys2Proof.Machine
end

