-- ==== Sys2Proof/Machine/Ops.lean ====
section
/-! DEFINITION. The named operations the commands share: web arithmetic, bar contexts and latches, panel
records and defect folds, references, starvation, retirement, the cut point, and messages in flight. -/

namespace Sys2Proof.Machine

/-! ### Web positions (chapter 1) -/

/-- The signed web distance d(a, b) (R5). -/
def webDist (a b : Word) : Int := (a - b).toInt

/-- A position and a distance added modulo 2^32 (R5). -/
def advance (p : Word) (distance : Nat) : Word := p + BitVec.ofNat 32 distance

/-- The offset of a bar's stitch line (section 1.3); bar A's is 0. -/
def Params.offset (p : Params) : Bar → Nat
  | .A => 0
  | .B => p.offB
  | .C => p.offC

/-- The line position W - OFF_b of a bar (R6). -/
def State.linePosition (s : State) (b : Bar) : Word := s.w - BitVec.ofNat 32 (s.params.offset b)

/-- The line position W - OFF_K of the cutter (R6). -/
def State.cutterPosition (s : State) : Word := s.w - BitVec.ofNat 32 s.params.offK

/-! ### Bar contexts -/

/-- The state with one bar's context replaced. -/
def State.setBar (s : State) (b : Bar) (c : BarContext) : State := { s with bars := s.bars.set b c }

/-- The state with one bar's control fields replaced. -/
def State.setControl (s : State) (b : Bar) (c : Control) : State :=
  s.setBar b { s.bars.get b with control := c }

/-- The four reasons that can be latched on a bar (R94). -/
inductive HaltReason where
  | select
  | defect
  | encoder
  | link
deriving DecidableEq, Repr

/-- A reason added to the latched halt reasons; a reason already latched stays latched once (R94). -/
def Latched.add (l : Latched) : HaltReason → Latched
  | .select => { l with select := true }
  | .defect => { l with defect := true }
  | .encoder => { l with encoder := true }
  | .link => { l with link := true }

/-- Latching a halt reason on a bar (R94). -/
def State.latch (s : State) (b : Bar) (r : HaltReason) : State :=
  let c := (s.bars.get b).control
  s.setControl b { c with latched := c.latched.add r }

/-- Latching a halt reason on bars A, B and C (R3, R161). -/
def State.latchAll (s : State) (r : HaltReason) : State :=
  Bar.all.foldl (fun t b => t.latch b r) s

/-! ### Panel records (chapter 3) -/

/-- A panel's end H + L (R5). -/
def PanelRecord.panelEnd (r : PanelRecord) : Word := advance r.head r.length

/-- The position phase of a record, by the conditions of section 3.3 in their order (R40). DEDUCED for
distances that are not exact (log 16). Unsafe there. -/
def State.phase (s : State) (r : PanelRecord) : Phase :=
  if webDist s.w r.head < 0 then .waiting
  else if webDist (s.linePosition .C) r.head < r.length then .inWork
  else if webDist s.cutterPosition r.head < r.length then .cleared
  else .due

/-- The live record with a head (R39, R50). -/
def State.findRecord (s : State) (head : Word) : Option PanelRecord :=
  s.table.records.find? (fun r => r.head = head)

/-- The live record with a tag (R39). -/
def State.findTag (s : State) (tag : Nat) : Option PanelRecord :=
  s.table.records.find? (fun r => r.tag.toNat = tag)

/-- A queue of records with the record of one head changed. -/
def updateHead (head : Word) (f : PanelRecord → PanelRecord) : List PanelRecord → List PanelRecord
  | [] => []
  | r :: rest => if r.head = head then f r :: rest else r :: updateHead head f rest

/-- The state with the queue of records replaced. -/
def State.setRecords (s : State) (records : List PanelRecord) : State :=
  { s with table := { s.table with records := records } }

/-- The state with the live record of one head changed. -/
def State.updateRecord (s : State) (head : Word) (f : PanelRecord → PanelRecord) : State :=
  s.setRecords (updateHead head f s.table.records)

/-- A record with a bar's status replaced (R51, R137). -/
def PanelRecord.setStatus (r : PanelRecord) (b : Bar) (status : BarStatus) : PanelRecord :=
  { r with bars := r.bars.set b { r.bars.get b with status := status } }

/-- A record with defect kinds added to the set of one bar, when the fold names a bar (R52). -/
def PanelRecord.addBarDefects (r : PanelRecord) (bar : Option Bar) (kinds : DefectSet) : PerBar PanelBar :=
  match bar with
  | none => r.bars
  | some b => r.bars.set b { r.bars.get b with defects := (r.bars.get b).defects ||| kinds }

/-- One fold into one record (R52). -/
def PanelRecord.fold (r : PanelRecord) (bar : Option Bar) (kinds : DefectSet) (y : Int) : PanelRecord :=
  { r with
    defects := r.defects ||| kinds
    bars := r.addBarDefects bar kinds
    notices := min (r.notices + 1) 65535
    first := r.first.or ((lowestKind kinds).map (fun k => ⟨k, bar, y⟩)) }

/-- A fold into the live record of a head, raising PANEL_DEFECT when it makes the first defect present;
nothing when no record with that head is live (R50, R52). -/
def State.fold (s : State) (head : Word) (bar : Option Bar) (kinds : DefectSet) (y : Int) : State :=
  match s.findRecord head with
  | none => s
  | some r =>
    (s.updateRecord head (fun r => r.fold bar kinds y)).raiseIf
      (r.first.isNone && (lowestKind kinds).isSome) .panelDefect (some (.tag r.tag))

/-- Whether an answered notice carries BREAK or THREAD_OUT (R54). DEDUCED (log 27). Safe. -/
def answered (kinds : DefectSet) : Bool :=
  kinds.getLsbD DefectKind.needleBreak.number || kinds.getLsbD DefectKind.threadOut.number

/-- A defect notice taken by the panel table, and the monitor's act on the answer: under STOP a BREAK or
THREAD_OUT notice raises DEFECT_STOP and latches DEFECT on the bar (R50, R54, R120, R125). -/
def State.takeNotice (s : State) (n : DefectNotice) : State :=
  match s.findRecord n.head with
  | none => s
  | some r =>
    let t := s.fold n.head (some n.bar) n.kinds n.y
    if r.policy = .stop && answered n.kinds then
      (t.raise .defectStop (some (.bar n.bar))).latch n.bar .defect
    else t

/-- The bar status a message carries. -/
def StatusNews.status : StatusNews → BarStatus
  | .sewing => .sewing
  | .done => .done
  | .short => .short

/-- A bar status message taken by the panel table: dropped when no record with the head is live, ignored
when the record's status for the bar is NONE (R51). -/
def State.takeStatus (s : State) (m : StatusMessage) : State :=
  s.updateRecord m.head (fun r =>
    if (r.bars.get m.bar).status = .absent then r
    else r.setStatus m.bar (StatusNews.status m.news))

/-! ### References (R35) -/

/-- A store with one pattern's use count changed. -/
def Store.changeUse (st : Store) (p : PatternId) (f : Nat → Nat) : Store :=
  let r := st.patterns[p]
  { st with patterns := st.patterns.set p { r with useCount := f r.useCount } }

/-- A store with one needle set's reference count changed; set 0 carries none (R17). -/
def Store.changeRef (st : Store) (n : SetNo) (f : Nat → Nat) : Store :=
  if n = 0 then st
  else
    let r := st.sets[n]
    { st with sets := st.sets.set n { r with refCount := f r.refCount } }

/-- A store with the counts of one bar's pattern and width set changed. -/
def Store.changeBar (st : Store) (f : Nat → Nat) (b : PanelBar) : Store :=
  let st := match b.pattern with
    | some p => st.changeUse p f
    | none => st
  match b.widthSet with
  | some n => st.changeRef n f
  | none => st

/-- The add message of a record (R35). -/
def Store.addRecord (st : Store) (r : PanelRecord) : Store :=
  Bar.all.foldl (fun st b => st.changeBar (· + 1) (r.bars.get b)) st

/-- The release message of a record (R35). A count stops at 0. DEDUCED (log 25). Safe. -/
def Store.releaseRecord (st : Store) (r : PanelRecord) : Store :=
  Bar.all.foldl (fun st b => st.changeBar (· - 1) (r.bars.get b)) st

/-! ### Starvation (R55) -/

/-- The starvation condition (R55). -/
def State.starvationCondition (s : State) : Bool :=
  match s.table.records.getLast? with
  | none => false
  | some newest =>
    s.table.records.all (fun r => s.phase r ≠ .waiting)
      && webDist newest.panelEnd s.w ≤ s.params.starveDist

/-- The stored starvation state takes the value of the condition, without an event (R55). -/
def State.restarve (s : State) : State :=
  { s with table := { s.table with starving := s.starvationCondition } }

/-! ### Retirement (section 7.5) -/

/-- The summary of a record (R143). -/
def PanelRecord.summary (r : PanelRecord) (outcome : CutOutcome) (w : Word) : Summary where
  tag := r.tag
  head := r.head
  length := r.length
  policy := r.policy
  aborted := r.aborted
  bars := r.bars.map (fun b => ⟨b.pattern, b.status, b.defects⟩)
  defects := r.defects
  notices := r.notices
  first := r.first
  outcome := outcome
  w := w

/-- Retirement of the record at the front of the table (R142). -/
def State.retire (s : State) (outcome : CutOutcome) : State :=
  match s.table.records with
  | [] => s
  | r :: rest =>
    let t := { s with
      cutter := {
        state := .idle
        pendingHead := none
        lastRetired := some (r.summary outcome s.w)
        retirements := s.cutter.retirements + 1 }
      table := { s.table with records := rest }
      store := s.store.releaseRecord r }
    (t.raise .panelRetired (some (.tag r.tag))).restarve

/-- A missed cut of the record at the front: CUT_MISSED is folded and raised, then the record is retired
(R141). -/
def State.missCut (s : State) (outcome : CutOutcome) : State :=
  match s.table.records with
  | [] => s
  | r :: _ =>
    ((s.fold r.head none DefectKind.cutMissed.bit (webDist s.cutterPosition r.head)).raise .cutMissed
      (some (.tag r.tag))).retire outcome

/-! ### The cut point (section 7.2) -/

/-- Settling one bar's status in the record of a head when its cut becomes pending (R137). -/
def State.settle (s : State) (head : Word) (b : Bar) : State :=
  let y := webDist (s.linePosition b) head
  match s.findRecord head with
  | none => s
  | some r =>
    match (r.bars.get b).status with
    | .notReached =>
      (s.updateRecord head (·.setStatus b .skipped)).fold head (some b) DefectKind.barSkipped.bit y
    | .sewing => (s.updateRecord head (·.setStatus b .short)).fold head (some b) DefectKind.barShort.bit y
    | _ => s

/-- The cut of the record at the front becomes pending (R136). -/
def State.makePending (s : State) (next : CutterState) : State :=
  match s.table.records with
  | [] => s
  | r :: rest =>
    let t := { s with
      cutter := { s.cutter with state := next, pendingHead := some r.head }
      table := { s.table with records := { r with cutPending := true } :: rest } }
    Bar.all.foldl (fun t b => t.settle r.head b) t

/-- Whether the record at the front of a queue is DUE. -/
def State.frontDue (s : State) (records : List PanelRecord) : Bool :=
  match records with
  | [] => false
  | r :: _ => s.phase r = .due

/-- Whether the end of a record has run CUT_WINDOW past the cutter line (R139). -/
def State.windowReached (s : State) (r : PanelRecord) : Bool :=
  (s.params.cutWindow : Int) ≤ webDist (s.cutterPosition - BitVec.ofNat 32 r.length) r.head

/-- Step 2 of a W arrival, in REQUESTING: the pending record, at the front, is retired as forced when the
record after it is DUE, and else as expired when its window has run out (R135). -/
def State.testPending (s : State) : State :=
  match s.table.records with
  | [] => s
  | r :: rest =>
    if s.frontDue rest then s.missCut .forced
    else if s.windowReached r then s.missCut .window
    else s

/-- Step 1 of a W arrival: a rearming request is asserted (R135). -/
def State.assertRequest (s : State) : State :=
  if s.cutter.state = .rearming then { s with cutter := { s.cutter with state := .requesting } } else s

/-- The cutter sequence at a W arrival (R135). -/
def State.cutPoint (s : State) : State :=
  let t := s.assertRequest
  let u := if t.cutter.state = .requesting then t.testPending else t
  if u.cutter.state = .idle && u.frontDue u.table.records then
    u.makePending (if s.cutter.state = .idle then .requesting else .rearming)
  else u

/-- A W arrival at the panel table: the cut point and the cut window, then the starvation condition, which
raises STARVE when it holds and the stored state was not starving before the arrival (R4, R55, R135). DEDUCED
(log 15). Unsafe. -/
def State.wArrival (s : State) : State :=
  let t := s.cutPoint.restarve
  t.raiseIf (t.table.starving && !s.table.starving) .starve none

/-! ### Messages in flight (R89) -/

/-- The state with messages sent. -/
def State.send (s : State) (ms : List Message) : State := { s with messages := s.messages ++ ms }

/-- The state with one message taken out of those in flight. DESIGN CHOICE (log 3). Safe. -/
def State.removeMessage (s : State) (m : Message) : State :=
  { s with messages := s.messages.erase m }

end Sys2Proof.Machine
end

