-- ==== Sys2Proof/Machine/Port.lean ====
section
/-! DEFINITION. How a command reaches the part: arrivals taken only while it operates, and requests executed
within a transaction of the line link with their response put in the slot (R157, R160, R163, R172). -/

namespace Sys2Proof.Machine

/-- What a command answers. -/
abbrev Result := Host.Outcome State Fault Refusal

/-- An arrival: while the part does not operate it takes none (R155, R172). DEDUCED (log 13). Safe. -/
def arrival (s : State) (f : State → State) : Result := .next (if s.inputs.operates then f s else s)

/-- A fall of LK_SEL: the frame in the slot is taken for output and the slot holds the idle response
(R160). -/
def State.beginTransaction (s : State) : State :=
  { s with link := { slot := .idle, output := s.link.slot, phase := .opened } }

/-- The transaction a frame is received in: the one open, or, when none is open with no frame taken yet, one
that begins with this frame. DESIGN CHOICE (log 8). Unsafe. -/
def State.enterTransaction (s : State) : State :=
  if s.link.phase = .opened then s else s.beginTransaction

/-- Whether the port takes frames: the part operates and the transaction is not one to be ignored
(R157). -/
def State.listening (s : State) : Bool := s.inputs.operates && s.link.phase != .ignored

/-- Whether the bits clocked in are those of a frame: the port takes frames and the transaction has executed none yet
(R157). -/
def State.receiving (s : State) : Bool := s.listening && s.link.phase != .answered

/-- LK_SEL is low in a transaction that the port does not take: it began before operation started, and the port
ignores it in full (R157). -/
def State.ignoreTransaction (s : State) : State := { s with link := { s.link with phase := .ignored } }

/-- The response of a request put in the slot; the rest of the transaction is fill (R157, R160). -/
def State.respond (s : State) (r : Response) : State :=
  { s with link := { s.link with slot := r, phase := .answered } }

/-- A request executed: the owner answers, and its status and payload go into the slot with the kind and tag
echoed (R158, R160, R163). A frame sent while the part does not operate, or within an ignored transaction, is
ignored, and leaves LK_SEL low (R157). -/
def request (kind tag : Byte) (owner : State → Answer) (s : State) : Result :=
  if s.listening then
    let a := owner s.enterTransaction
    .next (a.state.respond ⟨kind, tag, a.status, a.payload⟩)
  else .next s.ignoreTransaction

/-- An accepted request. -/
def accept (s : State) (payload : List Byte) : Answer := ⟨s, .ok, payload⟩

/-- A refused request with an empty payload: nothing changes (R163). -/
def refuse (s : State) (status : Status) : Answer := ⟨s, status, []⟩

end Sys2Proof.Machine
end

