-- ==== Sys2Proof/Machine/Patterns.lean ====
section
/-! DEFINITION. Needle sets and the pattern store: NSWRITE, NSINFO, PTOPEN, PTWRITE, PTCLOSE, PTREOPEN,
PTDELETE, PTINFO, PTREAD (chapter 2). -/

namespace Sys2Proof.Machine

/-! ### The store -/

/-- A place in the entry space: page and index. -/
abbrev Place2 := PageNo × EntryNo

/-- Every page, in ascending order. -/
def allPages : List PageNo := List.finRange 16

/-- The index after an index of the same page; 63 is followed by 0 (section 2.3). -/
def nextIndex (i : EntryNo) : EntryNo := i + 1

/-- The entry at a place. -/
def Store.entry (st : Store) (at_ : Place2) : SegEntry := st.entries[at_.1][at_.2]

/-- The store with one entry written. -/
def Store.write (st : Store) (at_ : Place2) (e : SegEntry) : Store :=
  { st with entries := st.entries.set at_.1 (st.entries[at_.1].set at_.2 e) }

/-- The store with one pattern record replaced. -/
def Store.setPattern (st : Store) (p : PatternId) (r : PatternRecord) : Store :=
  { st with patterns := st.patterns.set p r }

/-- The store with the owner of one page replaced. -/
def Store.setOwner (st : Store) (page : PageNo) (o : Option PatternId) : Store :=
  { st with owner := st.owner.set page o }

/-- The set of pages a pattern owns, page p counted as 2^p (R32). -/
def Store.pagesOwned (st : Store) (p : PatternId) : BitVec 16 :=
  allPages.foldl (fun f g => if st.owner[g] = some p then f ||| BitVec.twoPow 16 g.val else f) 0

/-- Every page of a pattern erased and freed (R31). -/
def Store.freePages (st : Store) (p : PatternId) : Store :=
  allPages.foldl (fun (st : Store) (g : PageNo) =>
    if st.owner[g] = some p then
      { st with entries := st.entries.set g Store.blankPage, owner := st.owner.set g none }
    else st) st

/-- The state with the store replaced. -/
def State.setStore (s : State) (st : Store) : State := { s with store := st }

/-! ### The closing walk (section 2.5) -/

/-- The outcome of a closing walk: closed, with its endless flag and its walked path in order, or failed,
with the status and the entry at which it failed. -/
inductive Walked where
  | closed (endless : Bool) (path : List Place2)
  | failed (status : Status) (at_ : Place2)
deriving DecidableEq, Repr

/-- Whether an entry keeps a loop from being made of LINK entries alone (R29). -/
def SegEntry.sews : SegEntry → Bool
  | .line .. => true
  | .lock .. => true
  | .call .. => true
  | _ => false

/-- The closing walk of pattern `p` from a place, with the places visited before it, latest first (R27, R29).
The fuel counts steps; 1,025 are never used up, since each step but the last adds one of 1,024 entries. -/
def Store.walk (st : Store) (p : PatternId) : Nat → List Place2 → Place2 → Walked
  | 0, _, here => .failed .badLoop here
  | fuel + 1, visited, here =>
    if here ∈ visited then
      if (here :: visited.takeWhile (· ≠ here)).any (fun q => (st.entry q).sews) then
        .closed true visited.reverse
      else .failed .badLoop here
    else
      match st.entry here with
      | .empty => .failed .badEntry here
      | .line .. => st.walk p fuel (here :: visited) (here.1, nextIndex here.2)
      | .lock .. => st.walk p fuel (here :: visited) (here.1, nextIndex here.2)
      | .call motif _ =>
        if motif ≠ p ∧ st.patterns[motif].state = .closed then
          st.walk p fuel (here :: visited) (here.1, nextIndex here.2)
        else .failed .badCall here
      | .link page =>
        if st.owner[page] = some p then st.walk p fuel (here :: visited) (page, 0)
        else .failed .badLink here
      | .fin => .closed false (here :: visited).reverse

/-- The closing walk of a pattern from entry 0 of its home page (R27). DEDUCED bound (log 19). Safe. -/
def Store.closingWalk (st : Store) (p : PatternId) (home : PageNo) : Walked :=
  st.walk p 1025 [] (home, 0)

/-- The count one walked entry makes: a CALL on its motif, a LINE or LOCK on its set (R28). -/
def Store.countEntry (st : Store) (f : Nat → Nat) (at_ : Place2) : Store :=
  match st.entry at_ with
  | .call motif _ => st.changeUse motif f
  | .line set _ _ => st.changeRef set f
  | .lock set _ _ => st.changeRef set f
  | _ => st

/-- The counts of a walked path, each entry contributing once (R28, R30). -/
def Store.countPath (st : Store) (f : Nat → Nat) (path : List Place2) : Store :=
  path.foldl (fun st q => st.countEntry f q) st

/-- The counts a pattern's closing added, taken back along the same walk (R30). DEDUCED for a record without a
home page (log 19). Safe. -/
def Store.takeBack (st : Store) (p : PatternId) : Store :=
  match st.patterns[p].home with
  | none => st
  | some home =>
    match st.closingWalk p home with
    | .closed _ path => st.countPath (· - 1) path
    | .failed .. => st

/-! ### Needle set requests -/

/-- NSWRITE at its owner (R18). -/
def nswrite (payload : List Byte) (s : State) : Answer :=
  let numbers := payload.drop 2
  if payload.length < 2 ∨ payload.length ≠ 2 + fieldByte payload 1 then refuse s .length
  else
    match setOf? (fieldByte payload 0) with
    | none => refuse s .range
    | some n =>
      if n = 0 ∨ 40 < fieldByte payload 1 ∨ numbers.any (fun b => 39 < b.toNat) then refuse s .range
      else if 0 < s.store.sets[n].refCount then refuse s .inUse
      else
        let r : NeedleSetRecord := { members := needleSetOf numbers, refCount := s.store.sets[n].refCount }
        accept (s.setStore { s.store with sets := s.store.sets.set n r }) []

/-- NSINFO at its owner (R19). -/
def nsinfo (payload : List Byte) (s : State) : Answer :=
  if payload.length ≠ 1 then refuse s .length
  else
    match setOf? (fieldByte payload 0) with
    | none => refuse s .range
    | some n =>
      let r := s.store.sets[n]
      let ms := members r.members
      accept s ([byte n.val] ++ bytesOf 2 r.refCount ++ [byte ms.length] ++ ms.map (fun m => byte m.val))

/-! ### Pattern requests -/

/-- PTOPEN at its owner (R22). -/
def ptopen (payload : List Byte) (s : State) : Answer :=
  if payload.length ≠ 2 then refuse s .length
  else
    match patternOf? (fieldByte payload 0), pageOf? (fieldByte payload 1) with
    | some p, some page =>
      if s.store.patterns[p].state ≠ .empty then refuse s .state
      else if s.store.owner[page] ≠ none then refuse s .pageOwned
      else
        let r : PatternRecord := { s.store.patterns[p] with state := .opened, home := some page }
        accept (s.setStore ((s.store.setPattern p r).setOwner page (some p))) []
    | _, _ => refuse s .range

/-- The entries a run of bytes spells, or the place in the run of the first that is malformed (R25). -/
def readEntries : List (List Byte) → Nat → Except Nat (List SegEntry)
  | [], _ => .ok []
  | bytes :: rest, i =>
    match SegEntry.of? bytes with
    | none => .error i
    | some e =>
      match readEntries rest (i + 1) with
      | .ok es => .ok (e :: es)
      | .error k => .error k

/-- A run of entries written from an index of one page on, 63 followed by 0 (R26). -/
def Store.writeRun (st : Store) (page : PageNo) : EntryNo → List SegEntry → Store
  | _, [] => st
  | i, e :: rest => (st.write (page, i) e).writeRun page (nextIndex i) rest

/-- PTWRITE at its owner (R25, R26). -/
def ptwrite (payload : List Byte) (s : State) : Answer :=
  let count := fieldByte payload 3
  if payload.length < 4 ∨ payload.length ≠ 4 + 8 * count then refuse s .length
  else
    match patternOf? (fieldByte payload 0), pageOf? (fieldByte payload 1), indexOf? (fieldByte payload 2) with
    | some p, some page, some first =>
      if count < 1 ∨ Config.maxRun < count then refuse s .range
      else if s.store.patterns[p].state ≠ .opened then refuse s .state
      else if s.store.owner[page] ≠ none ∧ s.store.owner[page] ≠ some p then refuse s .pageOwned
      else
        match readEntries (entryChunks count (payload.drop 4)) 0 with
        | .error i => ⟨s, .badEntry, [byte page.val, byte ((first.val + i) % 64)]⟩
        | .ok es => accept (s.setStore ((s.store.setOwner page (some p)).writeRun page first es)) []
    | _, _, _ => refuse s .range

/-- PTCLOSE at its owner (R27, R28, R29). -/
def ptclose (payload : List Byte) (s : State) : Answer :=
  if payload.length ≠ 1 then refuse s .length
  else
    match patternOf? (fieldByte payload 0) with
    | none => refuse s .range
    | some p =>
      match s.store.patterns[p].state, s.store.patterns[p].home with
      | .opened, some home =>
        match s.store.closingWalk p home with
        | .failed status at_ => ⟨s, status, [byte at_.1.val, byte at_.2.val]⟩
        | .closed endless path =>
          let r : PatternRecord := { s.store.patterns[p] with state := .closed, endless := endless }
          accept (s.setStore ((s.store.setPattern p r).countPath (· + 1) path))
            ([flag endless] ++ bytesOf 2 path.length)
      | _, _ => refuse s .state

/-- PTREOPEN at its owner (R30). -/
def ptreopen (payload : List Byte) (s : State) : Answer :=
  if payload.length ≠ 1 then refuse s .length
  else
    match patternOf? (fieldByte payload 0) with
    | none => refuse s .range
    | some p =>
      if s.store.patterns[p].state ≠ .closed then refuse s .state
      else if 0 < s.store.patterns[p].useCount then refuse s .inUse
      else
        let r : PatternRecord := { s.store.patterns[p] with state := .opened, endless := false }
        accept (s.setStore ((s.store.takeBack p).setPattern p r)) []

/-- PTDELETE at its owner (R31). -/
def ptdelete (payload : List Byte) (s : State) : Answer :=
  if payload.length ≠ 1 then refuse s .length
  else
    match patternOf? (fieldByte payload 0) with
    | none => refuse s .range
    | some p =>
      if s.store.patterns[p].state = .empty then refuse s .state
      else if 0 < s.store.patterns[p].useCount then refuse s .inUse
      else
        let st := if s.store.patterns[p].state = .closed then s.store.takeBack p else s.store
        accept (s.setStore ((st.freePages p).setPattern p .blank)) []

/-- The report of every page's owner (R33). -/
def pageMap (s : State) : Answer :=
  accept s (allPages.map (fun g => patternCode s.store.owner[g]))

/-- PTINFO at its owner; id 0 asks for the page map (R32, R33). -/
def ptinfo (payload : List Byte) (s : State) : Answer :=
  if payload.length ≠ 1 then refuse s .length
  else if fieldByte payload 0 = 0 then pageMap s
  else
    match patternOf? (fieldByte payload 0) with
    | none => refuse s .range
    | some p =>
      let r := s.store.patterns[p]
      accept s ([byte p.number, r.state.code,
          (match r.home with
            | some h => byte h.val
            | none => 0xFF)]
        ++ bytesOf 2 (s.store.pagesOwned p).toNat ++ [flag r.endless] ++ bytesOf 2 r.useCount)

/-- A run of entries of one page from an index on, 63 followed by 0 (R34). -/
def Store.readRun (st : Store) (page : PageNo) : EntryNo → Nat → List SegEntry
  | _, 0 => []
  | i, c + 1 => st.entry (page, i) :: st.readRun page (nextIndex i) c

/-- PTREAD at its owner (R34). -/
def ptread (payload : List Byte) (s : State) : Answer :=
  let count := fieldByte payload 2
  if payload.length ≠ 3 then refuse s .length
  else
    match pageOf? (fieldByte payload 0), indexOf? (fieldByte payload 1) with
    | some page, some first =>
      if count < 1 ∨ Config.maxRun < count then refuse s .range
      else
        accept s ([byte page.val, byte first.val, byte count, patternCode s.store.owner[page]]
          ++ (s.store.readRun page first count).flatMap SegEntry.bytes)
    | _, _ => refuse s .range

/-! ### The commands -/

/-- PTOPEN. -/
def execPtopen (tag : Byte) (payload : List Byte) (s : State) : Result := request 0x10 tag (ptopen payload) s

/-- PTWRITE. -/
def execPtwrite (tag : Byte) (payload : List Byte) (s : State) : Result := request 0x11 tag (ptwrite payload) s

/-- PTCLOSE. -/
def execPtclose (tag : Byte) (payload : List Byte) (s : State) : Result := request 0x12 tag (ptclose payload) s

/-- PTREOPEN. -/
def execPtreopen (tag : Byte) (payload : List Byte) (s : State) : Result :=
  request 0x13 tag (ptreopen payload) s

/-- PTDELETE. -/
def execPtdelete (tag : Byte) (payload : List Byte) (s : State) : Result :=
  request 0x14 tag (ptdelete payload) s

/-- PTINFO. -/
def execPtinfo (tag : Byte) (payload : List Byte) (s : State) : Result := request 0x15 tag (ptinfo payload) s

/-- PTINFO with id 0: the payload is the one byte 0 (R33). -/
def execPtinfoPageMap (tag : Byte) (s : State) : Result := request 0x15 tag pageMap s

/-- PTREAD. -/
def execPtread (tag : Byte) (payload : List Byte) (s : State) : Result := request 0x16 tag (ptread payload) s

/-- NSWRITE. -/
def execNswrite (tag : Byte) (payload : List Byte) (s : State) : Result := request 0x18 tag (nswrite payload) s

/-- NSINFO. -/
def execNsinfo (tag : Byte) (payload : List Byte) (s : State) : Result := request 0x19 tag (nsinfo payload) s

end Sys2Proof.Machine
end

