-- ==== Sys2Proof/Machine/Panels.lean ====
section
/-! DEFINITION. The panel table: PNADMIT, PNABORT, PNINFO, and the bar status messages and defect notices it
takes (chapter 3). -/

namespace Sys2Proof.Machine

/-! ### Admission (section 3.4) -/

/-- What an admission asks for one bar, as the payload carries it (R42). -/
structure BarRequest where
  pattern : Nat
  origin : Int
  widthSet : Nat
deriving DecidableEq, Repr

/-- The fields of an admission payload (R42). -/
structure Admission where
  tag : Nat
  mode : Nat
  value : Nat
  length : Nat
  tailMargin : Nat
  policy : Nat
  bars : PerBar BarRequest
deriving DecidableEq, Repr

/-- The four bytes of one bar in an admission payload (R42). -/
def readBarRequest (payload : List Byte) (at_ : Nat) : BarRequest where
  pattern := fieldByte payload at_
  origin := fieldSigned2 payload (at_ + 1)
  widthSet := fieldByte payload (at_ + 3)

/-- The admission a payload of 26 bytes carries (R42). -/
def readAdmission (payload : List Byte) : Admission where
  tag := field payload 0 2
  mode := fieldByte payload 2
  value := field payload 3 4
  length := field payload 7 4
  tailMargin := field payload 11 2
  policy := fieldByte payload 13
  bars := ⟨readBarRequest payload 14, readBarRequest payload 18, readBarRequest payload 22⟩

/-- The ranges of what is asked for one bar (R42, R43). -/
def BarRequest.inRange (r : BarRequest) : Bool :=
  r.pattern ≤ 32 && -4000 ≤ r.origin && r.origin ≤ 4000 && (r.widthSet ≤ 63 || r.widthSet = 0xFF)

/-- The ranges of an admission's fields (R42, R43). -/
def Admission.inRange (a : Admission) : Bool :=
  1 ≤ a.tag && a.tag ≤ 65535 && a.mode ≤ 1 && (a.mode = 0 || a.value ≤ 16777215)
    && 1000 ≤ a.length && a.length ≤ 1000000 && a.tailMargin ≤ 2000 && a.policy ≤ 1
    && a.bars.a.inRange && a.bars.b.inRange && a.bars.c.inRange

/-- The head an admission fixes: the value in AT mode; in AFTER mode the newest live record's end, or W when
the table is empty, plus the gap (R43). -/
def State.admittedHead (s : State) (a : Admission) : Word :=
  if a.mode = 0 then BitVec.ofNat 32 a.value
  else
    match s.table.records.getLast? with
    | some newest => advance newest.panelEnd a.value
    | none => advance s.w a.value

/-- What a new record holds for one bar (R38). -/
def BarRequest.panelBar (r : BarRequest) : PanelBar where
  pattern := patternOf? r.pattern
  origin := r.origin
  widthSet := setOf? r.widthSet
  status := if (patternOf? r.pattern).isSome then .notReached else .absent
  defects := 0

/-- The record an admission creates (R38). -/
def Admission.record (a : Admission) (head : Word) : PanelRecord where
  tag := BitVec.ofNat 16 a.tag
  head := head
  length := a.length
  tailMargin := a.tailMargin
  policy := if a.policy = 1 then .stop else .mark
  bars := a.bars.map BarRequest.panelBar
  defects := 0
  notices := 0
  first := none
  aborted := false
  cutPending := false

/-- Whether a bar names no pattern, or one that is CLOSED (R43, check 4). -/
def State.patternUsable (s : State) (r : BarRequest) : Bool :=
  match patternOf? r.pattern with
  | some p => s.store.patterns[p].state = .closed
  | none => true

/-- Whether a head lies before the newest live record's end (R43, check 7). -/
def State.overlapsNewest (s : State) (head : Word) : Bool :=
  match s.table.records.getLast? with
  | some newest => webDist head newest.panelEnd < 0
  | none => false

/-- A record joined at the back of the table, its references added to the store, and the stored starvation
state re-evaluated (R44). -/
def State.addPanel (s : State) (r : PanelRecord) : State :=
  ((s.setRecords (s.table.records ++ [r])).setStore (s.store.addRecord r)).restarve

/-- PNADMIT at its owner (R42, R43, R44). -/
def pnadmit (payload : List Byte) (s : State) : Answer :=
  if payload.length ≠ 26 then refuse s .length
  else
    let a := readAdmission payload
    let head := s.admittedHead a
    if Config.maxRecords ≤ s.table.records.length then refuse s .full
    else if (s.findTag a.tag).isSome then refuse s .dupTag
    else if !a.inRange then refuse s .range
    else if !(s.patternUsable a.bars.a && s.patternUsable a.bars.b && s.patternUsable a.bars.c) then
      refuse s .state
    else if webDist head s.w < 0 then refuse s .headPassed
    else if 16777216 ≤ webDist head s.w then refuse s .tooFar
    else if s.overlapsNewest head then refuse s .order
    else
      let t := s.addPanel (a.record head)
      accept t (bytesOfWord head ++ [byte t.table.records.length])

/-! ### Abort (section 3.5) -/

/-- Whether no bar has entered or passed a record (R45). -/
def State.untouched (s : State) (r : PanelRecord) : Bool :=
  Bar.all.all (fun b =>
    match (s.bars.get b).place.current with
    | some c => webDist c.head r.head < 0
    | none => true)

/-- A record taken out of the table (R46). -/
def State.removeRecord (s : State) (r : PanelRecord) : State :=
  ((s.setRecords (s.table.records.eraseP (fun q => q.tag = r.tag))).setStore
    (s.store.releaseRecord r)).restarve

/-- A record marked aborted (R47). -/
def State.markAborted (s : State) (r : PanelRecord) : State :=
  (s.updateRecord r.head (fun q => { q with aborted := true })).fold r.head none DefectKind.aborted.bit
    (webDist s.w r.head)

/-- PNABORT at its owner (R45, R46, R47). -/
def pnabort (payload : List Byte) (s : State) : Answer :=
  if payload.length ≠ 2 then refuse s .length
  else if field payload 0 2 = 0 then refuse s .noSuch
  else
    match s.findTag (field payload 0 2) with
    | none => refuse s .noSuch
    | some r =>
      let phase := s.phase r
      if phase = .waiting && s.untouched r && !r.cutPending then accept (s.removeRecord r) [0, phase.code]
      else if !r.aborted then accept (s.markAborted r) [1, phase.code]
      else accept s [2, phase.code]

/-! ### Queries (section 3.6) -/

/-- The 7 bytes of a first defect (R48). -/
def firstDefectBytes : Option FirstDefect → List Byte
  | some d => [1, byte d.kind.number, barCode d.bar] ++ signed4 d.y
  | none => [0, 0, 0xFF, 0, 0, 0, 0]

/-- The 7 bytes of one bar in a panel report (R48). -/
def PanelBar.bytes (b : PanelBar) : List Byte :=
  [patternCode b.pattern] ++ signed2 b.origin ++ [widthCode b.widthSet, b.status.code]
    ++ bytesOf 2 b.defects.toNat

/-- The report of one live record (R48). -/
def State.panelBytes (s : State) (r : PanelRecord) : List Byte :=
  bytesOf 2 r.tag.toNat ++ [byte (s.table.records.findIdx (fun q => q.tag = r.tag))]
    ++ bytesOfWord r.head ++ bytesOf 4 r.length ++ bytesOf 2 r.tailMargin
    ++ [r.policy.code, (s.phase r).code, flag r.aborted, flag r.cutPending]
    ++ r.bars.a.bytes ++ r.bars.b.bytes ++ r.bars.c.bytes
    ++ bytesOf 2 r.defects.toNat ++ bytesOf 2 r.notices ++ firstDefectBytes r.first

/-- The summary of the whole table (R49). -/
def tableReport (s : State) : Answer :=
  accept s ([byte s.table.records.length, flag s.table.starving]
    ++ s.table.records.flatMap (fun r =>
        bytesOf 2 r.tag.toNat ++ bytesOfWord r.head ++ [(s.phase r).code, flag r.aborted, flag r.cutPending]))

/-- PNINFO at its owner; tag 0 asks for the whole table (R48, R49). -/
def pninfo (payload : List Byte) (s : State) : Answer :=
  if payload.length ≠ 2 then refuse s .length
  else if field payload 0 2 = 0 then tableReport s
  else
    match s.findTag (field payload 0 2) with
    | none => refuse s .noSuch
    | some r => accept s (s.panelBytes r)

/-! ### The commands -/

/-- PNADMIT. -/
def execPnadmit (tag : Byte) (payload : List Byte) (s : State) : Result := request 0x20 tag (pnadmit payload) s

/-- PNABORT. -/
def execPnabort (tag : Byte) (payload : List Byte) (s : State) : Result := request 0x21 tag (pnabort payload) s

/-- PNINFO. -/
def execPninfo (tag : Byte) (payload : List Byte) (s : State) : Result := request 0x22 tag (pninfo payload) s

/-- PNINFO with tag 0: the payload is the two bytes 0 (R49). -/
def execPninfoTable (tag : Byte) (s : State) : Result := request 0x22 tag tableReport s

/-- BAR_STATUS_MESSAGE: the message is taken by the panel table (R51). -/
def execBarStatusMessage (m : StatusMessage) (s : State) : Result :=
  arrival s (fun s => (s.removeMessage (.status m)).takeStatus m)

/-- DEFECT_NOTICE: the notice is taken by the panel table and, where it is answered, the answer by the needle
monitor (R50, R54). -/
def execDefectNotice (n : DefectNotice) (s : State) : Result :=
  arrival s (fun s => (s.removeMessage (.notice n)).takeNotice n)

end Sys2Proof.Machine
end

