-- ==== Sys2Proof/Machine/Cutting.lean ====
section
/-! DEFINITION. The web tracker's counts, the cutter's acknowledge and the cut window, PNLAST and POSREAD
(chapters 1 and 7). -/

namespace Sys2Proof.Machine

/-! ### Counts (section 1.1) -/

/-- What a new encoder pair is, measured against the stored pair (R2). -/
inductive CountStep where
  | unchanged
  | forward
  | backward
  | illegal
deriving DecidableEq, Repr

/-- The decoding table of R2: stored pair, then new pair, each (WEB_A, WEB_B). -/
def decodePair : Bool × Bool → Bool × Bool → CountStep
  | (false, false), (true, false) => .forward
  | (false, false), (false, true) => .backward
  | (false, false), (true, true) => .illegal
  | (true, false), (true, true) => .forward
  | (true, false), (false, false) => .backward
  | (true, false), (false, true) => .illegal
  | (true, true), (false, true) => .forward
  | (true, true), (true, false) => .backward
  | (true, true), (false, false) => .illegal
  | (false, true), (false, false) => .forward
  | (false, true), (true, true) => .backward
  | (false, true), (true, false) => .illegal
  | (false, false), (false, false) => .unchanged
  | (true, false), (true, false) => .unchanged
  | (true, true), (true, true) => .unchanged
  | (false, true), (false, true) => .unchanged

/-- The state with a new stored encoder pair. -/
def State.setPair (s : State) (webA webB : Bool) : State :=
  { s with inputs := { s.inputs with webA := webA, webB := webB } }

/-- The state with W moved. -/
def State.setW (s : State) (w : Word) : State := { s with w := w }

/-- What a new pair is against the stored one. -/
def State.countStep (s : State) (webA webB : Bool) : CountStep :=
  decodePair (s.inputs.webA, s.inputs.webB) (webA, webB)

/-- The state after a pair has been taken and W has moved, before the panel table follows it (R1, R2). -/
def State.takePair (s : State) (webA webB : Bool) : State :=
  match s.countStep webA webB with
  | .forward => (s.setPair webA webB).setW (s.w + 1)
  | .backward => (s.setPair webA webB).setW (s.w - 1)
  | _ => s.setPair webA webB

/-- A pair taken by the web tracker: a count and the W arrival it makes, an illegal transition, or no arrival
(R1, R2, R3, R4). -/
def State.countArrival (s : State) (webA webB : Bool) : State :=
  match s.countStep webA webB with
  | .unchanged => s
  | .illegal => ((s.takePair webA webB).raise .encoderFault none).latchAll .encoder
  | _ => (s.takePair webA webB).wArrival

/-- COUNT_ARRIVAL: the inputs show a pair (R2). While the part does not operate only the levels are followed (R172). -/
def execCountArrival (webA webB : Bool) (s : State) : Result :=
  .next (if s.inputs.operates then s.countArrival webA webB else s.setPair webA webB)

/-- Whether the W arrival a pair makes is one at which the pending record's window is found expired (R135
step 2, R139). -/
def State.expiresAt (s : State) (webA webB : Bool) : Bool :=
  let t := s.takePair webA webB
  (s.countStep webA webB = .forward || s.countStep webA webB = .backward) && t.cutter.state != .idle
    && match t.table.records with
      | [] => false
      | r :: rest => !t.frontDue rest && t.windowReached r

/-- CUT_WINDOW_EXPIRY: the W arrival, by the pair named, at which the window of the pending record expires
(R135, R139). At any other arrival the event does not take place, and the command changes nothing. DESIGN
CHOICE (log 6). Safe. -/
def execCutWindowExpiry (webA webB : Bool) (s : State) : Result :=
  arrival s (fun s => if s.expiresAt webA webB then s.countArrival webA webB else s)

/-! ### The acknowledge (section 7.3) -/

/-- The state with the CUT_DONE level taken. -/
def State.setCutDone (s : State) (level : Bool) : State :=
  { s with inputs := { s.inputs with cutDone := level } }

/-- A rising edge of CUT_DONE at the cutter sequence (R138). -/
def State.acknowledgeCut (s : State) : State :=
  if s.cutter.state = .requesting then s.retire .cut else s.raise .cutStray none

/-- CUT_DONE: the input is high. It is an edge when the level last taken was low (R138). -/
def execCutDone (s : State) : Result :=
  .next (if s.inputs.operates && !s.inputs.cutDone then (s.setCutDone true).acknowledgeCut
    else s.setCutDone true)

/-- CUT_DONE_FALL: the level is updated and nothing else (R138). -/
def execCutDoneFall (s : State) : Result := .next (s.setCutDone false)

/-! ### PNLAST (section 7.5) -/

/-- The tag of the record whose cut is pending, 0 in IDLE (R144). -/
def State.pendingTag (s : State) : Nat :=
  match s.cutter.pendingHead with
  | none => 0
  | some h => ((s.findRecord h).map (fun r => r.tag.toNat)).getD 0

/-- The 4 bytes of one bar in a summary (R144). -/
def SummaryBar.bytes (b : SummaryBar) : List Byte :=
  [patternCode b.pattern, b.status.code] ++ bytesOf 2 b.defects.toNat

/-- The bytes of the last-retired slot from the tag onward; 0 but for the first bar when it is empty
(R144). -/
def summaryBytes : Option Summary → List Byte
  | some m =>
    bytesOf 2 m.tag.toNat ++ bytesOfWord m.head ++ bytesOf 4 m.length ++ [m.outcome.code]
      ++ bytesOfWord m.w ++ [flag m.aborted, m.policy.code]
      ++ m.bars.a.bytes ++ m.bars.b.bytes ++ m.bars.c.bytes
      ++ bytesOf 2 m.defects.toNat ++ bytesOf 2 m.notices ++ firstDefectBytes m.first
  | none => List.replicate 33 0 ++ firstDefectBytes none

/-- PNLAST at its owner (R144). -/
def pnlast (payload : List Byte) (s : State) : Answer :=
  if payload.length ≠ 0 then refuse s .length
  else
    accept s ([flag s.cutter.lastRetired.isSome] ++ bytesOf 2 s.cutter.retirements.toNat
      ++ [s.cutter.state.code] ++ bytesOf 2 s.pendingTag ++ summaryBytes s.cutter.lastRetired)

/-- PNLAST. -/
def execPnlast (tag : Byte) (payload : List Byte) (s : State) : Result := request 0x23 tag (pnlast payload) s

/-! ### POSREAD (section 1.5) -/

/-- The 10 bytes of one bar's reference (R12). -/
def Reference.bytes (r : Reference) : List Byte :=
  [flag r.last.isSome] ++ bytesOfHead r.last ++ [r.strokeClass.code] ++ signed4 r.advance

/-- The stored encoder pair as a number: WEB_A counts 2, WEB_B counts 1 (R12). -/
def pairCode (webA webB : Bool) : Byte := (if webA then 2 else 0) + (if webB then 1 else 0)

/-- POSREAD at its owner (R12). -/
def posread (payload : List Byte) (s : State) : Answer :=
  if payload.length ≠ 0 then refuse s .length
  else
    accept s (bytesOfWord s.w ++ [pairCode s.inputs.webA s.inputs.webB]
      ++ s.bars.a.reference.bytes ++ s.bars.b.reference.bytes ++ s.bars.c.reference.bytes)

/-- POSREAD. -/
def execPosread (tag : Byte) (payload : List Byte) (s : State) : Result := request 0x56 tag (posread payload) s

end Sys2Proof.Machine
end

