-- ==== Sys2Proof/Machine/Needles.lean ====
section
/-! DEFINITION. The needle monitor: scans, misses, breaks, probation and retry, thread accounting, and the
needle requests (chapter 6). -/

namespace Sys2Proof.Machine

/-! ### Needle records -/

/-- A needle's record. -/
def State.needle (s : State) (b : Bar) (n : NeedleNo) : NeedleRecord := (s.needles.get b)[n]

/-- The state with one needle's record replaced. -/
def State.setNeedle (s : State) (b : Bar) (n : NeedleNo) (r : NeedleRecord) : State :=
  { s with needles := s.needles.set b ((s.needles.get b).set n r) }

/-- The state with a function applied to every record of a bar. -/
def State.mapNeedles (s : State) (b : Bar) (f : NeedleRecord → NeedleRecord) : State :=
  { s with needles := s.needles.set b (vectorMap f (s.needles.get b)) }

/-- The state with one bar's sensor chain replaced. -/
def State.setScan (s : State) (b : Bar) (chain : SensorChain) : State :=
  { s with scans := s.scans.set b chain }

/-- Whether a needle is READY or PROBATION (R111). -/
def NeedleRecord.eligible (r : NeedleRecord) : Bool := r.state = .ready || r.state = .probation

/-- The needles of a bar that are READY or PROBATION (R85, R111). -/
def State.eligible (s : State) (b : Bar) : NeedleSet :=
  allNeedles.foldl (fun f n => if (s.needle b n).eligible then f ||| needleBit n.val else f) 0

/-! ### Scan requests (sections 6.2 and 6.4) -/

/-- A retry countdown lowered by 1, running out at 0 (R121). -/
def NeedleRecord.lowerCountdown (r : NeedleRecord) : NeedleRecord :=
  match r.state, r.countdown with
  | .broken, some c =>
    if c ≤ 1 then
      { r with state := .probation, progress := 0, countdown := none, retries := r.retries - 1 }
    else { r with countdown := some (c - 1) }
  | _, _ => r

/-- A scan still in flight at the next scan request is abandoned; SCAN_LATE is raised when it expected any
needle (R114). -/
def State.overtakeScan (s : State) (b : Bar) : State :=
  match (s.scans.get b).scan with
  | some scan => s.raiseIf (scan.expected != 0) .scanLate (some (.bar b))
  | none => s

/-- A scan request taken by the needle monitor (R113, R114, R121). -/
def State.takeScanRequest (s : State) (r : ScanRequest) : State :=
  let t := (s.overtakeScan r.bar).setScan r.bar (.scanning ⟨r.expected, r.panel⟩)
  if r.running then t.mapNeedles r.bar NeedleRecord.lowerCountdown else t

/-! ### Scan evaluation (section 6.3) -/

/-- What the evaluation of one needle finds: its record after it, whether it counts towards the BREAK notice,
and whether it was retired or passed its probation. -/
structure ScanFinding where
  record : NeedleRecord
  broke : Bool
  retired : Bool
  passed : Bool
deriving DecidableEq, Repr

/-- Evaluation that finds nothing to report. -/
def ScanFinding.quiet (r : NeedleRecord) : ScanFinding := ⟨r, false, false, false⟩

/-- A break of a READY needle (R118). -/
def breakNeedle (p : Params) (r : NeedleRecord) : ScanFinding :=
  if p.breakLimit ≤ r.breaks + 1 then
    ⟨{ r with state := .retired, misses := 0, breaks := r.breaks + 1 }, true, true, false⟩
  else
    ⟨{ r with
        state := .broken
        misses := 0
        breaks := r.breaks + 1
        retries := p.retries
        countdown := if 0 < p.retries then some p.retryGap else none }, true, false, false⟩

/-- The evaluation of a READY needle (R117). -/
def scanReady (p : Params) (motion : Bool) (r : NeedleRecord) : ScanFinding :=
  if motion then .quiet { r with misses := 0 }
  else if p.missLimit ≤ r.misses + 1 then breakNeedle p r
  else .quiet { r with misses := r.misses + 1 }

/-- The evaluation of a PROBATION needle (R119). -/
def scanProbation (p : Params) (motion : Bool) (r : NeedleRecord) : ScanFinding :=
  if motion then
    if p.probation ≤ r.progress + 1 then
      ⟨{ r with state := .ready, progress := 0, misses := 0 }, false, false, true⟩
    else .quiet { r with progress := r.progress + 1 }
  else
    ⟨{ r with
        state := .broken
        progress := 0
        countdown := if 0 < r.retries then some p.retryGap else none }, true, false, false⟩

/-- The evaluation of one needle of the expected set (R116). -/
def scanNeedle (p : Params) (motion : Bool) (r : NeedleRecord) : ScanFinding :=
  match r.state with
  | .ready => scanReady p motion r
  | .probation => scanProbation p motion r
  | _ => .quiet r

/-- The channel a needle is read from (R115). -/
def channelOf (skew : Nat) (n : NeedleNo) : Nat := (n.val + skew) % 40

/-- One needle's finding written back, with the events it raises (R116, R118, R119). -/
def State.applyFinding (s : State) (b : Bar) (n : NeedleNo) (f : ScanFinding) : State :=
  (((s.setNeedle b n f.record).raiseIf f.broke .needleBroken (some (.needle b n))).raiseIf f.retired
    .needleRetired (some (.needle b n))).raiseIf f.passed .probationPassed (some (.needle b n))

/-- One needle of a scan's expected set evaluated; the flag collects whether any broke (R116). -/
def evaluateNeedle (b : Bar) (channels : NeedleSet) (acc : State × Bool) (n : NeedleNo) : State × Bool :=
  let s := acc.1
  let f := scanNeedle s.params (channels.getLsbD (channelOf (s.params.skew.get b) n)) (s.needle b n)
  (s.applyFinding b n f, acc.2 || f.broke)

/-- A defect notice of the needle monitor sent to the panel table: kind, bar, the head of the panel, and Y
from W as it stands (R120, R125). Without a panel there is no record to name. DEDUCED for an absent panel (log
20). Safe. -/
def State.sendMonitorNotice (s : State) (b : Bar) (panel : Option Word) (k : DefectKind) : State :=
  match panel with
  | some h => s.send [.notice ⟨b, h, k.bit, webDist (s.linePosition b) h⟩]
  | none => s

/-- The evaluation of a scan (R116, R120). -/
def State.evaluateScan (s : State) (b : Bar) (scan : Scan) (channels : NeedleSet) : State :=
  let (t, broke) := (members scan.expected).foldl (evaluateNeedle b channels) (s, false)
  if broke then t.sendMonitorNotice b scan.panel .needleBreak else t

/-- A scan data arrival: the clocking of the chain ends, and with it the scan in flight, which is evaluated; the data is
ignored when no scan is in flight (R113, R133). -/
def State.takeScanData (s : State) (b : Bar) (channels : NeedleSet) : State :=
  let t := s.setScan b .atRest
  match (s.scans.get b).scan with
  | some scan => t.evaluateScan b scan channels
  | none => t

/-! ### Thread accounting (section 6.5) -/

/-- The thread one needle draws at a stroke, in tu (R122). -/
def threadDrawn (adv : Int) (factor : Nat) : Nat := ((min adv 1023 * factor + 63) / 64).toNat

/-- What consumption does to one needle: its record, whether its thread ran out, and whether it is warned. -/
structure DrawFinding where
  record : NeedleRecord
  exhausted : Bool
  low : Bool
deriving DecidableEq, Repr

/-- The record of a needle whose thread is exhausted (R123). -/
def NeedleRecord.exhaust (r : NeedleRecord) : NeedleRecord :=
  if r.state = .retired then { r with thread := 0 }
  else { r with state := .threadOut, thread := 0, misses := 0, progress := 0, countdown := none }

/-- The THREAD_LOW warning after consumption (R124). -/
def warnLow (reserve : Nat) (r : NeedleRecord) (exhausted : Bool) : DrawFinding :=
  if r.thread ≤ reserve && !r.lowWarned then ⟨{ r with lowWarned := true }, exhausted, true⟩
  else ⟨r, exhausted, false⟩

/-- Consumption of `c` tu by one needle (R122, R123, R124). -/
def drawThread (reserve c : Nat) (r : NeedleRecord) : DrawFinding :=
  if r.thread = 0 then ⟨r, false, false⟩
  else if c < r.thread then warnLow reserve { r with thread := r.thread - c } false
  else warnLow reserve r.exhaust true

/-- One needle of a consumption notice's frame drawn; the flag collects whether any thread ran out. -/
def drawNeedle (b : Bar) (c : Nat) (acc : State × Bool) (n : NeedleNo) : State × Bool :=
  let s := acc.1
  let f := drawThread s.params.threadReserve c (s.needle b n)
  (((s.setNeedle b n f.record).raiseIf f.low .threadLow (some (.needle b n))).raiseIf f.exhausted .threadOut
    (some (.needle b n)), acc.2 || f.exhausted)

/-- A consumption notice taken by the needle monitor (R122, R125). -/
def State.takeConsumption (s : State) (n : ConsumptionNotice) : State :=
  let c := threadDrawn n.advance (s.params.threadFactor.get n.bar)
  let (t, out) := (members n.frame).foldl (drawNeedle n.bar c) (s, false)
  if out then t.sendMonitorNotice n.bar n.panel .threadOut else t

/-! ### Needle requests (section 6.6) -/

/-- The 15-byte form of a needle record (R130). -/
def State.needleBytes (s : State) (b : Bar) (n : NeedleNo) : List Byte :=
  let r := s.needle b n
  [barNumber b, byte n.val, r.state.code, byte r.misses, byte r.breaks] ++ bytesOf 4 r.thread
    ++ [flag r.lowWarned, byte r.progress, flag r.countdown.isSome] ++ bytesOf 2 (r.countdown.getD 0)
    ++ [byte r.retries]

/-- A request that names one needle by bar and number: the LENGTH and RANGE checks, then the owner's own
work (R126). -/
def needleRequest (payload : List Byte) (s : State) (f : Bar → NeedleNo → Answer) : Answer :=
  if payload.length ≠ 2 then refuse s .length
  else
    match barOf? (fieldByte payload 0), needleOf? (fieldByte payload 1) with
    | some b, some n => f b n
    | _, _ => refuse s .range

/-- A needle request accepted: the record replaced and reported (R130). -/
def acceptNeedle (s : State) (b : Bar) (n : NeedleNo) (r : NeedleRecord) : Answer :=
  let t := s.setNeedle b n r
  accept t (t.needleBytes b n)

/-- NDREARM at its owner (R126). -/
def ndrearm (payload : List Byte) (s : State) : Answer :=
  needleRequest payload s fun b n =>
    let r := s.needle b n
    if r.state = .broken ∨ r.state = .probation then
      acceptNeedle s b n
        { r with state := .probation, progress := 0, retries := s.params.retries, countdown := none }
    else refuse s .state

/-- NDRESTORE at its owner (R127). -/
def ndrestore (payload : List Byte) (s : State) : Answer :=
  needleRequest payload s fun b n =>
    let r := s.needle b n
    if r.state = .retired then
      acceptNeedle s b n
        { r with
          state := if 0 < r.thread then .ready else .threadOut
          breaks := 0
          misses := 0
          progress := 0
          retries := 0
          countdown := none }
    else refuse s .state

/-- NDRETIRE at its owner (R128). -/
def ndretire (payload : List Byte) (s : State) : Answer :=
  needleRequest payload s fun b n =>
    let r := s.needle b n
    if r.state = .retired then acceptNeedle s b n r
    else acceptNeedle s b n { r with state := .retired, countdown := none, misses := 0, progress := 0 }

/-- A new spool of a length (R129). -/
def NeedleRecord.load (len : Nat) (r : NeedleRecord) : NeedleRecord :=
  if r.state = .threadOut then
    { r with thread := len, lowWarned := false, state := .ready, misses := 0, progress := 0 }
  else { r with thread := len, lowWarned := false }

/-- How many needles of a bar are in THREAD_OUT. -/
def State.threadOutCount (s : State) (b : Bar) : Nat :=
  (s.needles.get b).toList.countP (fun r => r.state = .threadOut)

/-- NDLOAD at its owner (R129). -/
def ndload (payload : List Byte) (s : State) : Answer :=
  let len := field payload 2 4
  if payload.length ≠ 6 then refuse s .length
  else
    match barOf? (fieldByte payload 0) with
    | none => refuse s .range
    | some b =>
      if len < 1 ∨ 2000000000 < len then refuse s .range
      else if fieldByte payload 1 = 0xFF then
        accept (s.mapNeedles b (NeedleRecord.load len)) [byte (s.threadOutCount b)]
      else
        match needleOf? (fieldByte payload 1) with
        | some n =>
          let r := s.needle b n
          accept (s.setNeedle b n (r.load len)) [flag (r.state = .threadOut)]
        | none => refuse s .range

/-- The report of a bar's needle states and its scan record (R131). -/
def State.barNeedleBytes (s : State) (b : Bar) : List Byte :=
  [barNumber b] ++ (s.needles.get b).toList.map (fun r => r.state.code)
    ++ (match (s.scans.get b).scan with
      | some scan => [1] ++ setBytes scan.expected ++ [flag scan.panel.isSome] ++ bytesOfHead scan.panel
      | none => [0] ++ setBytes 0 ++ [0] ++ bytesOfHead none)

/-- NDINFO with needle 0xFF (R131); the bar is the payload's first byte. -/
def ndinfoWholeBar (bar : Byte) (s : State) : Answer :=
  match barOf? bar.toNat with
  | some b => accept s (s.barNeedleBytes b)
  | none => refuse s .range

/-- NDINFO at its owner; needle 0xFF asks for the bar as a whole (R130, R131). -/
def ndinfo (payload : List Byte) (s : State) : Answer :=
  if payload.length = 2 ∧ fieldByte payload 1 = 0xFF then ndinfoWholeBar (byte (fieldByte payload 0)) s
  else needleRequest payload s fun b n => accept s (s.needleBytes b n)

/-! ### The commands -/

/-- SCAN_REQUEST: the request is taken by the needle monitor (R113). -/
def execScanRequest (r : ScanRequest) (s : State) : Result :=
  arrival s (fun s => (s.removeMessage (.scan r)).takeScanRequest r)

/-- RETRY_COUNTDOWN_EXPIRY: the running scan request at which the countdown of the needle named, of the
request's bar, runs out (R121). At any other request the event does not take place, and the command changes
nothing. DESIGN CHOICE (log 7). Safe. -/
def execRetryCountdownExpiry (n : NeedleNo) (r : ScanRequest) (s : State) : Result :=
  arrival s (fun s =>
    if r.running && (s.needle r.bar n).state = .broken && (s.needle r.bar n).countdown = some 1 then
      (s.removeMessage (.scan r)).takeScanRequest r
    else s)

/-- SCAN_DATA_ARRIVAL: channel 39 has been received; channel k is bit k (R113, R116). -/
def execScanDataArrival (b : Bar) (channels : NeedleSet) (s : State) : Result :=
  arrival s (fun s => s.takeScanData b channels)

/-- CONSUMPTION_NOTICE: the notice is taken by the needle monitor (R122). -/
def execConsumptionNotice (n : ConsumptionNotice) (s : State) : Result :=
  arrival s (fun s => (s.removeMessage (.consumption n)).takeConsumption n)

/-- NDREARM. -/
def execNdrearm (tag : Byte) (payload : List Byte) (s : State) : Result := request 0x40 tag (ndrearm payload) s

/-- NDRESTORE. -/
def execNdrestore (tag : Byte) (payload : List Byte) (s : State) : Result :=
  request 0x41 tag (ndrestore payload) s

/-- NDRETIRE. -/
def execNdretire (tag : Byte) (payload : List Byte) (s : State) : Result :=
  request 0x42 tag (ndretire payload) s

/-- NDLOAD. -/
def execNdload (tag : Byte) (payload : List Byte) (s : State) : Result := request 0x43 tag (ndload payload) s

/-- NDINFO. -/
def execNdinfo (tag : Byte) (payload : List Byte) (s : State) : Result := request 0x44 tag (ndinfo payload) s

/-- NDINFO with needle 0xFF: the payload is the bar's byte and 0xFF (R131). -/
def execNdinfoBar (tag bar : Byte) (s : State) : Result := request 0x44 tag (ndinfoWholeBar bar) s

end Sys2Proof.Machine
end

