-- ==== Sys2Proof/Machine/BarControl.lean ====
section
/-! DEFINITION. Bar control: halt reasons, the stroke boundary, FREEZE and DRIVE_FAULT, the select echo, and
the bar requests BRUN, BSTOP, BOVERRIDE, BREHEARSE, BINFO (chapter 5). -/

namespace Sys2Proof.Machine

/-! ### Halt reasons (section 5.1) -/

/-- The halt reasons present at a bar (R92). -/
structure HaltReasons where
  latched : Latched
  freeze : Bool
  drive : Bool
  requested : Bool
deriving DecidableEq, Repr

/-- Whether any reason is latched. -/
def Latched.any (l : Latched) : Bool := l.select || l.defect || l.encoder || l.link

/-- Whether any reason other than REQUESTED is present (R95). -/
def HaltReasons.beyondRequested (h : HaltReasons) : Bool := h.latched.any || h.freeze || h.drive

/-- Whether any reason is present (R92). -/
def HaltReasons.any (h : HaltReasons) : Bool := h.beyondRequested || h.requested

/-- The code of the halt reasons, summed as R108 gives it. -/
def HaltReasons.code (h : HaltReasons) : Byte :=
  (if h.latched.select then 1 else 0) + (if h.latched.defect then 2 else 0)
    + (if h.latched.encoder then 4 else 0) + (if h.latched.link then 8 else 0)
    + (if h.freeze then 16 else 0) + (if h.drive then 32 else 0) + (if h.requested then 64 else 0)

/-- The halt reasons a bar with given control fields has, the level reasons taken from the inputs as they
stand (R92, R93, R104). -/
def haltReasons (inputs : Inputs) (b : Bar) (c : Control) : HaltReasons where
  latched := c.latched
  freeze := inputs.freeze
  drive := inputs.driveFault.get b
  requested := c.requested

/-! ### The stroke boundary (section 5.2) -/

/-- Steps 1 to 3: the staged override, rehearsal change and run or stop are applied (R95). -/
def Control.applyStaged (c : Control) : Control :=
  { c with
    override := c.pendingOverride.getD c.override
    pendingOverride := none
    rehearsal := c.pendingRehearsal.getD c.rehearsal
    pendingRehearsal := none
    requested := match c.pendingRun with
      | some .stop => true
      | some .run => false
      | none => c.requested
    pendingRun := none }

/-- Steps 4 and 5: whether the stroke is running (R95). -/
def strokeRuns (inputs : Inputs) (b : Bar) (c : Control) : Bool :=
  !(haltReasons inputs b c.applyStaged).any && (c.run = .running || c.pendingRun = some .run)

/-- A bar's control fields after the stroke boundary, the select transfer in flight being overtaken
(R95, R107). -/
def settledControl (inputs : Inputs) (b : Bar) (c : Control) : Control :=
  { c.applyStaged with
    run := if strokeRuns inputs b c then .running else .stopped
    transfer := none }

/-- Whether the stroke boundary raises BAR_HALTED (R95). -/
def haltsBar (inputs : Inputs) (b : Bar) (c : Control) : Bool :=
  c.run = .running && !strokeRuns inputs b c && (haltReasons inputs b c.applyStaged).beyondRequested

/-! ### Requests (sections 5.3, 5.4, 5.7) -/

/-- The control summary of R97. -/
def State.controlSummary (s : State) (b : Bar) : List Byte :=
  let c := (s.bars.get b).control
  [c.run.code, pendingRunCode c.pendingRun, (haltReasons s.inputs b c).code]

/-- A request whose payload is one bar: the LENGTH and RANGE checks, then the owner's own work (R97). -/
def barRequest (payload : List Byte) (s : State) (f : Bar → Answer) : Answer :=
  if payload.length ≠ 1 then refuse s .length
  else
    match barOf? (fieldByte payload 0) with
    | some b => f b
    | none => refuse s .range

/-- The control fields an accepted BRUN leaves (R97). -/
def Control.acceptRun (c : Control) : Control :=
  { c with
    latched := .clear
    pendingRun := if c.run = .stopped then some .run else none }

/-- BRUN at its owner (R97). -/
def brun (payload : List Byte) (s : State) : Answer :=
  barRequest payload s fun b =>
    if s.inputs.freeze || s.inputs.driveFault.get b then ⟨s, .halted, s.controlSummary b⟩
    else
      let t := s.setControl b (s.bars.get b).control.acceptRun
      accept t (t.controlSummary b)

/-- BSTOP at its owner (R98). -/
def bstop (payload : List Byte) (s : State) : Answer :=
  barRequest payload s fun b =>
    let t := s.setControl b { (s.bars.get b).control with pendingRun := some .stop }
    accept t (t.controlSummary b)

/-- BOVERRIDE at its owner (R99). -/
def boverride (payload : List Byte) (s : State) : Answer :=
  let numbers := payload.drop 2
  if payload.length < 2 ∨ payload.length ≠ 2 + fieldByte payload 1 then refuse s .length
  else
    match barOf? (fieldByte payload 0) with
    | none => refuse s .range
    | some b =>
      if 40 < fieldByte payload 1 ∨ numbers.any (fun n => 39 < n.toNat) then refuse s .range
      else
        let c := (s.bars.get b).control
        accept (s.setControl b { c with pendingOverride := some (needleSetOf numbers) })
          [flag c.pendingOverride.isSome]

/-- BREHEARSE at its owner (R101). -/
def brehearse (payload : List Byte) (s : State) : Answer :=
  if payload.length ≠ 2 then refuse s .length
  else
    match barOf? (fieldByte payload 0) with
    | none => refuse s .range
    | some b =>
      if 1 < fieldByte payload 1 then refuse s .range
      else
        let c := (s.bars.get b).control
        accept (s.setControl b { c with pendingRehearsal := some (fieldByte payload 1 = 1) })
          [flag c.pendingRehearsal.isSome]

/-- The 4 bytes of a motif frame (R108). -/
def MotifFrame.bytes (f : MotifFrame) : List Byte :=
  [byte f.returnPage.val, byte f.returnIndex.val, byte f.remaining, byte f.motif.number]

/-- The motif stack from the bottom up, in 16 bytes, 0 beyond the depth (R108). -/
def stackBytes (stack : List MotifFrame) : List Byte :=
  (stack.reverse.flatMap MotifFrame.bytes ++ List.replicate 16 0).take 16

/-- The 10 bytes of a frame, its panel's presence and head (R108). -/
def SentFrame.bytes (f : SentFrame) : List Byte :=
  setBytes f.needles ++ [flag f.panel.isSome] ++ bytesOfHead f.panel

/-- The report of one bar's context (R108). -/
def State.barBytes (s : State) (b : Bar) : List Byte :=
  let c := (s.bars.get b).control
  let q := (s.bars.get b).place
  [barNumber b, c.run.code, pendingRunCode c.pendingRun, (haltReasons s.inputs b c).code, flag c.rehearsal,
      pendingRehearsalCode c.pendingRehearsal]
    ++ setBytes c.override ++ [flag c.pendingOverride.isSome] ++ setBytes (c.pendingOverride.getD 0)
    ++ [q.outcome.code, presenceCode q.current] ++ bytesOfHead (q.current.map (·.head))
    ++ [flag q.stoppedInPanel] ++ signed4 q.lastY
    ++ (match q.cursor with
      | some k => [1, byte k.pattern.number, byte k.page.val, byte k.index.val]
      | none => [0, 0, 0, 0])
    ++ signed4 q.ys ++ signed4 q.ps
    ++ [byte q.lockCount, q.tail.code, flag q.finished, byte q.stack.length] ++ stackBytes q.stack
    ++ signed4 q.p ++ signed2 q.x ++ setBytes q.engaged ++ q.previous.bytes
    ++ [flag c.transfer.isSome] ++ (c.transfer.getD .blank).bytes

/-- BINFO at its owner (R108). -/
def binfo (payload : List Byte) (s : State) : Answer :=
  barRequest payload s fun b => accept s (s.barBytes b)

/-! ### The select echo (section 5.6) -/

/-- An echo arrival: compared with the frame of the transfer in flight, position by position; ignored when no
transfer is in flight (R106). -/
def State.takeEcho (s : State) (b : Bar) (echo : NeedleSet) : State :=
  let c := (s.bars.get b).control
  match c.transfer with
  | none => s
  | some sent =>
    let t := s.setControl b { c with transfer := none }
    if echo = sent.needles then t else (t.raise .selectFault (some (.bar b))).latch b .select

/-! ### The commands -/

/-- FREEZE: the input shows a level (R93, R149). -/
def execFreeze (asserted : Bool) (s : State) : Result :=
  .next { s with inputs := { s.inputs with freeze := asserted } }

/-- DRIVE_FAULT: the input of a bar shows a level (R104, R149). -/
def execDriveFault (b : Bar) (asserted : Bool) (s : State) : Result :=
  .next { s with inputs := { s.inputs with driveFault := s.inputs.driveFault.set b asserted } }

/-- SELECT_ECHO: the last of the 40 positions has been received; position n is bit n (R106). -/
def execSelectEcho (b : Bar) (echo : NeedleSet) (s : State) : Result :=
  arrival s (fun s => s.takeEcho b echo)

/-- BRUN. -/
def execBrun (tag : Byte) (payload : List Byte) (s : State) : Result := request 0x30 tag (brun payload) s

/-- BSTOP. -/
def execBstop (tag : Byte) (payload : List Byte) (s : State) : Result := request 0x31 tag (bstop payload) s

/-- BOVERRIDE. -/
def execBoverride (tag : Byte) (payload : List Byte) (s : State) : Result :=
  request 0x32 tag (boverride payload) s

/-- BREHEARSE. -/
def execBrehearse (tag : Byte) (payload : List Byte) (s : State) : Result :=
  request 0x33 tag (brehearse payload) s

/-- BINFO. -/
def execBinfo (tag : Byte) (payload : List Byte) (s : State) : Result := request 0x34 tag (binfo payload) s

end Sys2Proof.Machine
end

