-- ==== Sys2Proof/Machine/Messages.lean ====
section
/-! DEFINITION. Messages in flight between the blocks: taking one, taking all of a bar before its next stroke
event, and what the part does by itself when nothing is commanded (R89, R91). -/

namespace Sys2Proof.Machine

/-- A message taken by its receiver. -/
def State.deliver (s : State) : Message → State
  | .status m => s.takeStatus m
  | .notice n => s.takeNotice n
  | .consumption n => s.takeConsumption n
  | .scan r => s.takeScanRequest r

/-- Whether a message is one that a bar's sequencer sent (R89); a notice that carries BREAK or THREAD_OUT comes
from the needle monitor (R120, R125). -/
def Message.sentBy (b : Bar) : Message → Bool
  | .status m => m.bar = b
  | .notice n => n.bar = b && !answered n.kinds
  | .consumption n => n.bar = b
  | .scan r => r.bar = b

/-- Whether a message is a scan request. -/
def Message.isScan : Message → Bool
  | .scan _ => true
  | _ => false

/-- A bar's messages in flight in the order in which they are taken at its next stroke event: as sent, but
that the free value Config.scanRequestFirst decides whether the scan request goes before the rest (R91). That the notices
to different panels go as sent is a DESIGN CHOICE (log 32). Unsafe. -/
def State.ownMessages (s : State) (b : Bar) : List Message :=
  let own := s.messages.filter (Message.sentBy b)
  if Config.scanRequestFirst s.choices then
    own.filter Message.isScan ++ own.filter (fun m => !m.isScan)
  else own

/-- Every message of a bar still in flight taken before the bar's next stroke event (R89). DEDUCED (log 4).
Safe, but for the order of the notices (log 32). -/
def State.flush (s : State) (b : Bar) : State :=
  match s.messages.filter (Message.sentBy b) with
  | [] => s
  | _ :: _ =>
    (s.ownMessages b).foldl State.deliver
      { s with
        messages := s.messages.filter (fun m => !Message.sentBy b m)
        choices := s.choices + 1 }

/-- What the part does when no command waits: a message in flight, the one the free value
Config.nextMessage names, is taken by its receiver; with none in flight nothing happens. DESIGN CHOICE
(log 2). Safe. -/
def State.idle (s : State) : State :=
  match s.messages[Config.nextMessage s.choices % s.messages.length]? with
  | some m => ({ s.removeMessage m with choices := s.choices + 1 }).deliver m
  | none => s

end Sys2Proof.Machine
end

