-- ==== Sys2Proof/Machine/Placement.lean ====
section
/-! DEFINITION. The stroke event of a bar: classification, location, the cursor walk, the tail tie, the lateral
position, the engaged set, and what a stroke hands on (chapters 1.4, 4 and 5.2). -/

namespace Sys2Proof.Machine

/-! ### Classification (section 1.4) -/

/-- The class of a stroke with an advance (R9). -/
def classOf (p : Params) (adv : Int) : StrokeClass :=
  if adv < 0 then .reverse
  else if adv < p.slMin then .stall
  else if adv ≤ p.slMax then .normal
  else .long

/-- A bar's reference after a stroke that takes W (R8, R9). -/
def classify (p : Params) (w : Word) (r : Reference) : Reference :=
  match r.last with
  | none => ⟨some w, .stall, 0⟩
  | some last =>
    let adv := webDist w last
    ⟨if adv ≤ 0 then some last else some w, classOf p adv, adv⟩

/-- Whether strokes of a class may be sewn (R10). -/
def StrokeClass.forward (c : StrokeClass) : Bool := c = .normal || c = .long

/-! ### What a stroke works on -/

/-- What a stroke event of a bar has fixed before it locates the panel: the state it reads, the bar, whether
the stroke is running, the control fields in force, the stroke's class and advance, and the line position. -/
structure Stroke where
  state : State
  bar : Bar
  running : Bool
  control : Control
  strokeClass : StrokeClass
  advance : Int
  line : Word

/-- What the stages of a stroke build up: the placement fields, the record the stroke is located in, the
defect kinds noted, per panel head, and the status messages sent. -/
structure Work where
  place : Place
  located : Option PanelRecord
  notes : List (Word × DefectSet)
  news : List StatusMessage

/-- The stroke's Y for a panel head (section 4.1). -/
def Stroke.y (k : Stroke) (head : Word) : Int := webDist k.line head

/-- Defect kinds noted for the panel of a head: one set for each panel (R88). -/
def addNote (head : Word) (kinds : DefectSet) : List (Word × DefectSet) → List (Word × DefectSet)
  | [] => [(head, kinds)]
  | (h, ks) :: rest => if h = head then (h, ks ||| kinds) :: rest else (h, ks) :: addNote head kinds rest

/-- A defect kind noted on a panel when a condition holds. -/
def Work.note (w : Work) (c : Bool) (head : Word) (k : DefectKind) : Work :=
  if c then { w with notes := addNote head k.bit w.notes } else w

/-- A status message to a panel's record. -/
def Work.tell (w : Work) (b : Bar) (head : Word) (news : StatusNews) : Work :=
  { w with news := w.news ++ [⟨b, head, news⟩] }

/-- The work with its placement fields replaced. -/
def Work.setPlace (w : Work) (q : Place) : Work := { w with place := q }

/-- What a panel record holds for the stroke's bar. -/
def Stroke.panelBar (k : Stroke) (r : PanelRecord) : PanelBar := r.bars.get k.bar

/-! ### Leaving and entering (section 4.2) -/

/-- The entry under a cursor. -/
def Store.under (st : Store) (c : Option Cursor) : SegEntry :=
  match c with
  | some c => st.entry (c.page, c.index)
  | none => .empty

/-- The needle set an entry names, empty when it names none (R77). -/
def Store.namedSet (st : Store) (e : SegEntry) : NeedleSet :=
  match e with
  | .line set _ _ => st.sets[set].members
  | .lock set _ _ => st.sets[set].members
  | _ => 0

/-- The tie strokes done in the tail; 0 for a bar that has not entered it (R79). -/
def TailState.done : TailState → Nat
  | .outside => 0
  | .tie n => n

/-- Whether a cursor stands on a LOCK cut off mid-way (R79). -/
def lockCutOff (e : SegEntry) (lockCount : Nat) : Bool :=
  match e with
  | .lock _ n _ => 0 < lockCount && lockCount < n
  | _ => false

/-- The tie check at leaving a panel (R79). -/
def Stroke.tieShort (k : Stroke) (r : PanelRecord) (q : Place) : Bool :=
  let e := k.state.store.under q.cursor
  !r.aborted &&
    (lockCutOff e q.lockCount
      || (0 < r.tailMargin && 0 < k.state.params.tailTie && k.state.store.namedSet e != 0
        && q.tail.done < k.state.params.tailTie))

/-- Whether a bar leaving a panel stood close enough to its end (R69). -/
def Stroke.reachedEnd (k : Stroke) (r : PanelRecord) (q : Place) : Bool :=
  (r.length : Int) - k.state.params.slMax ≤ q.lastY

/-- The leaving judgement of a live record whose pattern for the bar is present (R69, R79). -/
def Stroke.judge (k : Stroke) (r : PanelRecord) (w : Work) : Work :=
  let q := w.place
  if (k.panelBar r).pattern.isNone then w
  else
    let w := w.note (k.tieShort r q) r.head .tieShort
    if q.stoppedInPanel then w
    else if k.reachedEnd r q then w.tell k.bar r.head .done
    else (w.note true r.head .barShort).tell k.bar r.head .short

/-- The current panel left: LEFT, with the judgement when its record is live (R65, R66). -/
def Stroke.leave (k : Stroke) (c : CurrentPanel) (w : Work) : Work :=
  let gone := w.setPlace { w.place with current := some { c with presence := .left } }
  match k.state.findRecord c.head with
  | some r => k.judge r gone
  | none => gone

/-- A stopped stroke's mark on the panel it is located in, made once for each panel (R68). The status and the
note are sent only where the panel has a pattern for the bar. DEDUCED (log 17). Unsafe. -/
def Stroke.markStopped (k : Stroke) (r : PanelRecord) (w : Work) : Work :=
  if k.running || w.place.stoppedInPanel then w
  else
    let w := w.setPlace { w.place with stoppedInPanel := true }
    if (k.panelBar r).pattern.isNone then w
    else (w.note true r.head .barShort).tell k.bar r.head .short

/-- The home page of a pattern; a CLOSED pattern has one (R20). -/
def Store.homeOf (st : Store) (p : PatternId) : PageNo := st.patterns[p].home.getD 0

/-- The cursor at entry 0 of a pattern's home page. -/
def Store.homeCursor (st : Store) (p : PatternId) : Cursor := ⟨p, st.homeOf p, 0⟩

/-- A panel entered (R67, R68). -/
def Stroke.enter (k : Stroke) (r : PanelRecord) (w : Work) : Work :=
  let pattern := (k.panelBar r).pattern
  let w := w.setPlace { w.place with
    current := some ⟨r.head, .inside⟩
    stoppedInPanel := false
    lastY := k.y r.head
    cursor := pattern.map k.state.store.homeCursor
    ys := 0
    ps := 0
    lockCount := 0
    tail := .outside
    finished := false
    stack := []
    p := 0 }
  let w := if k.running && pattern.isSome then w.tell k.bar r.head .sewing else w
  { k.markStopped r w with located := some r }

/-- A stroke located in the current panel (R68). -/
def Stroke.stay (k : Stroke) (r : PanelRecord) (w : Work) : Work :=
  let w := w.setPlace { w.place with lastY := max w.place.lastY (k.y r.head) }
  { k.markStopped r w with located := some r }

/-- A gap stroke, which leaves a current panel that is IN when its record is gone or its end is reached
(R64, R65). -/
def Stroke.gap (k : Stroke) (w : Work) : Work :=
  match w.place.current with
  | none => w
  | some c =>
    if c.presence = .left then w
    else
      match k.state.findRecord c.head with
      | none => k.leave c w
      | some r => if (r.length : Int) ≤ k.y r.head then k.leave c w else w

/-- The panel under the bar's line (R64). -/
def Stroke.covering (k : Stroke) : Option PanelRecord :=
  k.state.table.records.find? (fun r => 0 ≤ k.y r.head && k.y r.head < r.length)

/-- The location of the stroke (R64, R65, R66). -/
def Stroke.locate (k : Stroke) (w : Work) : Work :=
  match k.covering with
  | none => k.gap w
  | some r =>
    match w.place.current with
    | none => k.enter r w
    | some c =>
      if c.head = r.head then
        if c.presence = .inside then k.stay r w else w
      else if 0 < webDist r.head c.head then
        k.enter r (if c.presence = .inside then k.leave c w else w)
      else k.gap w

/-! ### The cursor walk (section 4.4) -/

/-- A pattern position held within its bounds (R72, R81). -/
def saturate (p : Int) : Int := max (-65535) (min 65535 p)

/-- The cursor at the next entry of its page (section 2.3). -/
def Cursor.next (c : Cursor) : Cursor := { c with index := nextIndex c.index }

/-- Whether an entry covers a stroke (R71). -/
def covers (e : SegEntry) (q : Place) (y : Int) : Bool :=
  match e with
  | .line _ dy _ => y - q.ys < dy
  | .lock _ n _ => q.lockCount < n
  | _ => false

/-- The pattern in which the walk goes on when a motif has ended: the motif of the frame now on top, or the
panel's own pattern (R75). -/
def patternBelow (own : Option PatternId) (stack : List MotifFrame) (now : PatternId) : PatternId :=
  match stack with
  | f :: _ => f.motif
  | [] => own.getD now

/-- A step from an END (R75). -/
def stepEnd (st : Store) (own : Option PatternId) (c : Cursor) (q : Place) : Place :=
  match q.stack with
  | [] => { q with finished := true }
  | f :: below =>
    if 1 < f.remaining then
      { q with
        stack := { f with remaining := f.remaining - 1 } :: below
        cursor := some (st.homeCursor f.motif) }
    else
      { q with
        stack := below
        cursor := some ⟨patternBelow own below c.pattern, f.returnPage, f.returnIndex⟩ }

/-- A step onto a CALL; the flag says that it was passed over (R74). -/
def stepCall (st : Store) (c : Cursor) (motif : PatternId) (repeats : Nat) (q : Place) : Place × Bool :=
  if q.stack.length < Config.maxStack then
    ({ q with
        stack := ⟨c.page, nextIndex c.index, repeats, motif⟩ :: q.stack
        cursor := some (st.homeCursor motif) }, false)
  else ({ q with cursor := some c.next }, true)

/-- One step of the cursor walk from the entry under the cursor; the flag says that a CALL was passed over
(R72 to R76). A cursor on EMPTY, or none, has no step to take. DEDUCED (log 18). Safe. -/
def walkStep (st : Store) (own : Option PatternId) (y : Int) (c : Cursor) (q : Place) : Place × Bool :=
  match st.entry (c.page, c.index) with
  | .line _ dy dx => ({ q with ys := q.ys + dy, ps := saturate (q.ps + dx), cursor := some c.next }, false)
  | .lock _ _ _ => ({ q with ys := y, lockCount := 0, cursor := some c.next }, false)
  | .call motif r => stepCall st c motif r q
  | .fin => (stepEnd st own c q, false)
  | .link page => ({ q with cursor := some ⟨c.pattern, page, 0⟩ }, false)
  | .empty => (q, false)

/-- The cursor walk with a budget of steps: the placement fields as the last step left them, whether a CALL
was passed over, and whether the walk stopped on a covering segment (R71). -/
def walkCursor (st : Store) (own : Option PatternId) (y : Int) : Nat → Place → Bool → Place × Bool × Bool
  | budget, q, deep =>
    match q.cursor with
    | none => (q, deep, false)
    | some c =>
      if q.finished then (q, deep, false)
      else if covers (st.entry (c.page, c.index)) q y then (q, deep, true)
      else
        match budget with
        | 0 => (q, deep, false)
        | budget + 1 =>
          let (q', passed) := walkStep st own y c q
          walkCursor st own y budget q' (deep || passed)

/-! ### Lateral position (section 4.6) -/

/-- A quotient rounded to the nearest integer, halves away from zero (R80). -/
def roundDiv (num : Int) (den : Nat) : Int :=
  let q : Int := ((2 * num.natAbs + den) / (2 * den) : Nat)
  if num < 0 then -q else q

/-- The placement fields on a covering segment with its pattern position, and the lock offset of the stroke
(R73, R80, R81). -/
def patternPosition (e : SegEntry) (y : Int) (q : Place) : Place × Int :=
  match e with
  | .line _ dy dx => ({ q with p := saturate (q.ps + roundDiv (dx * (y - q.ys)) dy) }, 0)
  | .lock _ _ a =>
    ({ q with p := q.ps, lockCount := q.lockCount + 1 }, if (q.lockCount + 1) % 2 = 1 then a else 0)
  | _ => (q, 0)

/-- A target within the travel limits (R82). -/
def clampTo (lo hi target : Int) : Int := if target < lo then lo else if hi < target then hi else target

/-- The commanded position moved towards the clamped target by at most one step (R83). -/
def moveTowards (step : Nat) (target x : Int) : Int :=
  if (target - x).natAbs ≤ step then target else if x < target then x + step else x - step

/-! ### The engaged set (section 4.7) -/

/-- The engaged set formed from a segment set (R85). -/
def Stroke.engage (k : Stroke) (r : PanelRecord) (segment : NeedleSet) : NeedleSet :=
  if r.aborted then 0
  else
    let width : NeedleSet := match (k.panelBar r).widthSet with
      | some n => k.state.store.sets[n].members
      | none => BitVec.allOnes 40
    segment &&& width &&& k.state.eligible k.bar &&& ~~~ k.control.override

/-! ### Placement strokes (sections 4.3 to 4.6) -/

/-- A stroke that forms no engaged set or an empty one, with its outcome (R70, R84, R85). -/
def Work.empty (w : Work) (o : StrokeOutcome) : Work := w.setPlace { w.place with engaged := 0, outcome := o }

/-- A placement stroke in the tail (R78). -/
def Stroke.tailStroke (k : Stroke) (r : PanelRecord) (w : Work) : Work :=
  let q := w.place
  let s := k.state.store.namedSet (k.state.store.under q.cursor)
  if s ≠ 0 ∧ q.tail.done < k.state.params.tailTie then
    w.setPlace { q with tail := .tie (q.tail.done + 1), engaged := k.engage r s, outcome := .tie }
  else w.empty .postTie

/-- A PLACED stroke on the segment under the cursor (R80 to R83, R85). -/
def Stroke.placed (k : Stroke) (r : PanelRecord) (w : Work) : Work :=
  let e := k.state.store.under w.place.cursor
  let (q, offset) := patternPosition e (k.y r.head) w.place
  let params := k.state.params
  let target := (k.panelBar r).origin + q.p + offset
  let clamped := clampTo (params.xMin.get k.bar) (params.xMax.get k.bar) target
  let step := params.stepMax.get k.bar
  let w := w.setPlace { q with
    x := moveTowards step clamped q.x
    engaged := k.engage r (k.state.store.namedSet e)
    outcome := .placed }
  (w.note (clamped ≠ target) r.head .travelClamp).note (step < (clamped - q.x).natAbs) r.head .lag

/-- A placement stroke outside the tail with finished no: the walk and what it comes to (R71). A walk whose 8th step
sets finished meets both the second and the third way to stop; the model takes the second: the stroke is FINISHED,
and SEG_OVERRUN is not noted. DESIGN CHOICE (log 28). Unsafe. -/
def Stroke.walkStroke (k : Stroke) (r : PanelRecord) (w : Work) : Work :=
  let (q, deep, covered) :=
    walkCursor k.state.store (k.panelBar r).pattern (k.y r.head) Config.walkBudget w.place false
  let w := (w.setPlace q).note deep r.head .motifDepth
  if covered then k.placed r w
  else if q.finished then w.empty .finished
  else (w.empty .overrun).note true r.head .segOverrun

/-- Whether a placement stroke enters the tail zone (R77). -/
def Stroke.entersTail (k : Stroke) (r : PanelRecord) (q : Place) : Bool :=
  q.tail = .outside && 0 < r.tailMargin && (r.length : Int) - r.tailMargin ≤ k.y r.head

/-- A placement stroke: the tail, finished or walk step (R70, R71, R75, R77). -/
def Stroke.placement (k : Stroke) (r : PanelRecord) (w : Work) : Work :=
  let w := w.note (k.strokeClass = .long) r.head .longStitch
  if w.place.tail ≠ .outside then k.tailStroke r w
  else if k.entersTail r w.place then k.tailStroke r (w.setPlace { w.place with tail := .tie 0 })
  else if w.place.finished then w.empty .finished
  else k.walkStroke r w

/-- A running stroke by its kind: gap, idle, held or placement (R70, R86). -/
def Stroke.runningStroke (k : Stroke) (w : Work) : Work :=
  match w.located with
  | none => w.empty .gap
  | some r =>
    if (k.panelBar r).pattern.isNone then w.empty .idle
    else
      let w := w.note k.control.rehearsal r.head .rehearsed
      if k.strokeClass.forward then k.placement r w else w.empty .held

/-- The stroke by its kind (R70). -/
def Stroke.act (k : Stroke) (w : Work) : Work :=
  if k.running then k.runningStroke w else w.empty .stopped

/-! ### What a stroke hands on (section 4.8) -/

/-- The select frame a running stroke sends: the engaged set, empty in rehearsal (R85, R86), with the panel it
sews (R105). -/
def Stroke.frame (k : Stroke) (w : Work) : SentFrame where
  needles := if k.control.rehearsal then 0 else w.place.engaged
  panel := w.located.map (·.head)

/-- The defect notices of a stroke, one for each panel noted (R88), in the order in which the stroke first noted each
panel: that of an overtaken frame, the panel left, the panel entered or stood in. The manual orders notices to different
panels nowhere (R89). DESIGN CHOICE (log 32). Unsafe. -/
def Stroke.notices (k : Stroke) (w : Work) : List Message :=
  (w.notes.filter (fun n => n.2 ≠ 0)).map (fun n => .notice ⟨k.bar, n.1, n.2, k.y n.1⟩)

/-- The messages a stroke sends: status messages, defect notices, the consumption notice of a running stroke
of class NORMAL or LONG, and the scan request with the previous frame (R88, R90, R91). -/
def Stroke.messages (k : Stroke) (w : Work) : List Message :=
  w.news.map .status ++ k.notices w
    ++ (if k.running && k.strokeClass.forward then
        [.consumption ⟨k.bar, k.advance, (k.frame w).needles, (k.frame w).panel⟩]
      else [])
    ++ [.scan ⟨k.bar, k.running, w.place.previous.needles, w.place.previous.panel⟩]

/-- The bar's control fields after the stroke: a running stroke sends the lateral command and starts a select
transfer (R103, R105). -/
def Stroke.sentControl (k : Stroke) (w : Work) : Control :=
  if k.running then
    { k.control with
      driveCommand := some (BitVec.ofInt 16 w.place.x)
      transfer := some (k.frame w) }
  else k.control

/-- The bar's placement fields after the stroke: the previous frame becomes the frame sent at it (R91). -/
def Stroke.sentPlace (k : Stroke) (w : Work) : Place :=
  { w.place with previous := if k.running then k.frame w else .blank }

/-! ### The stroke evaluation (R62) -/

/-- What a stroke event of a bar fixes before it locates the panel (R62, stages 1 and 2). -/
def State.strokeOf (s : State) (b : Bar) : Stroke :=
  let c := s.bars.get b
  let r := classify s.params s.w c.reference
  { state := s
    bar := b
    running := strokeRuns s.inputs b c.control
    control := settledControl s.inputs b c.control
    strokeClass := r.strokeClass
    advance := r.advance
    line := s.linePosition b }

/-- The work a stroke starts from: the bar's placement fields, and SELECT_LATE noted on the panel of an
overtaken frame (R107). -/
def Stroke.start (k : Stroke) : Work :=
  let c := k.state.bars.get k.bar
  { place := c.place
    located := none
    notes := match c.control.transfer with
      | some ⟨_, some h⟩ => [(h, DefectKind.selectLate.bit)]
      | _ => []
    news := [] }

/-- The work of a stroke, all its stages done (R62, stages 3 and 4). -/
def Stroke.finish (k : Stroke) : Work := k.act (k.locate k.start)

/-- The stroke evaluation of a bar (R62): BAR_HALTED and SELECT_LATE where they arise (R95, R107), the bar's
context after the stroke, and the messages it sends. -/
def State.evaluateStroke (s : State) (b : Bar) : State :=
  let c := s.bars.get b
  let k := s.strokeOf b
  let w := k.finish
  let context : BarContext :=
    { reference := classify s.params s.w c.reference
      control := k.sentControl w
      place := k.sentPlace w }
  (((s.setBar b context).raiseIf (haltsBar s.inputs b c.control) .barHalted (some (.bar b))).raiseIf
    c.control.transfer.isSome .selectLate (some (.bar b))).send (k.messages w)

/-! ### The stroke input (section 10.6) -/

/-- The state with the STROKE level taken. -/
def State.setStroke (s : State) (level : Bool) : State :=
  { s with inputs := { s.inputs with stroke := level } }

/-- A rising edge of STROKE when the level last taken was low: one stroke event becomes due at each bar
(R171). -/
def State.strokeEdge (s : State) : State :=
  if s.inputs.stroke then s else { s.setStroke true with strokesDue := s.strokesDue.map (· + 1) }

/-- A bar's own stroke event: the messages of its last stroke are taken first, then the stroke is evaluated
(R62, R89). -/
def State.takeStroke (s : State) (b : Bar) : State :=
  let s := { s with strokesDue := s.strokesDue.set b (s.strokesDue.get b - 1) }
  (s.flush b).evaluateStroke b

/-- STROKE_EVENT: a bar takes its stroke event. A pulse that has risen gives each bar one (R171): the bar takes
one still due to it; else the input rises, when the level last taken was low; else there is no edge and
nothing happens. DEDUCED (log 5). Safe. -/
def State.strokeEvent (s : State) (b : Bar) : State :=
  let s := if s.strokesDue.get b = 0 then s.strokeEdge else s
  if s.strokesDue.get b = 0 then s else s.takeStroke b

/-- STROKE_EVENT. While the part does not operate only the level is followed (R172). -/
def execStrokeEvent (b : Bar) (s : State) : Result :=
  .next (if s.inputs.operates then s.strokeEvent b else s.setStroke true)

/-- STROKE_FALL: the level is updated and nothing else (R171). -/
def execStrokeFall (s : State) : Result := .next (s.setStroke false)

end Sys2Proof.Machine
end

