-- ==== Sys2Proof/Machine/Events.lean ====
section
/-! DEFINITION. The requests of the attention unit: EVREAD, EVACK, MASKSET, MASKCLEAR (chapter 8). -/

namespace Sys2Proof.Machine

/-- The 4 bytes of one sticky source: detail present, detail, raise count (R153). -/
def EventSlot.bytes (slot : EventSlot) : List Byte :=
  [flag slot.detail.isSome] ++ ((slot.detail.map Detail.bytes).getD [0, 0]) ++ [byte slot.count]

/-- EVREAD at its owner (R153). -/
def evread (payload : List Byte) (s : State) : Answer :=
  if payload.length ≠ 0 then refuse s .length
  else
    accept s (sourceBytes s.stickyFlags ++ sourceBytes s.levelFlags
      ++ Sticky.all.flatMap (fun e => (s.event e).bytes)
      ++ sourceBytes s.masks[0] ++ sourceBytes s.masks[1] ++ sourceBytes s.masks[2] ++ sourceBytes s.masks[3]
      ++ [s.lineStates])

/-- EVACK at its owner (R154). -/
def evack (payload : List Byte) (s : State) : Answer :=
  let value := field payload 0 3
  if payload.length ≠ 3 then refuse s .length
  else if 2 ^ 21 ≤ value then refuse s .range
  else
    let named : SourceSet := BitVec.ofNat 21 value
    accept (s.acknowledge named) (sourceBytes s.stickyFlags
      ++ Sticky.all.map (fun e => if named.getLsbD e.number then byte (s.event e).count else 0))

/-- A mask request: the LENGTH and RANGE checks, then the mask replaced; the line follows at once (R152). -/
def maskRequest (f : SourceSet → SourceSet → SourceSet) (payload : List Byte) (s : State) : Answer :=
  let value := field payload 1 3
  if payload.length ≠ 4 then refuse s .length
  else if h : fieldByte payload 0 < 4 then
    if 2 ^ 21 ≤ value then refuse s .range
    else
      let n : Fin 4 := ⟨fieldByte payload 0, h⟩
      let t : State := { s with masks := s.masks.set n (f s.masks[n] (BitVec.ofNat 21 value)) }
      accept t (sourceBytes t.masks[n] ++ [t.lineStates])
  else refuse s .range

/-- MASKSET at its owner: the union (R152). -/
def maskset (payload : List Byte) (s : State) : Answer := maskRequest (fun m f => m ||| f) payload s

/-- MASKCLEAR at its owner: the mask less the set given (R152). -/
def maskclear (payload : List Byte) (s : State) : Answer := maskRequest (fun m f => m &&& ~~~ f) payload s

/-! ### The commands -/

/-- EVREAD. -/
def execEvread (tag : Byte) (payload : List Byte) (s : State) : Result := request 0x52 tag (evread payload) s

/-- EVACK. -/
def execEvack (tag : Byte) (payload : List Byte) (s : State) : Result := request 0x53 tag (evack payload) s

/-- MASKSET. -/
def execMaskset (tag : Byte) (payload : List Byte) (s : State) : Result := request 0x54 tag (maskset payload) s

/-- MASKCLEAR. -/
def execMaskclear (tag : Byte) (payload : List Byte) (s : State) : Result :=
  request 0x55 tag (maskclear payload) s

end Sys2Proof.Machine
end

