-- ==== Sys2Proof/Machine/Settings.lean ====
section
/-! DEFINITION. The configuration parameters: the table of section 9.7, CFWRITE and CFREAD (R165 to R169). -/

namespace Sys2Proof.Machine

/-- The 32 parameters of the table of section 9.7. -/
inductive ParamId where
  | offB
  | offC
  | offK
  | skew (b : Bar)
  | missLimit
  | breakLimit
  | xMin (b : Bar)
  | xMax (b : Bar)
  | stepMax (b : Bar)
  | threadFactor (b : Bar)
  | slMin
  | slMax
  | probation
  | retryGap
  | retries
  | threadReserve
  | tailTie
  | cutWindow
  | starveDist
  | roomMark
  | linkCheck
  | linkPolicy
deriving DecidableEq, Repr

/-- The parameters in the order of their ids 1 to 32 (section 9.7). -/
def ParamId.all : List ParamId :=
  [.offB, .offC, .offK, .skew .A, .skew .B, .skew .C, .missLimit, .breakLimit, .xMin .A, .xMin .B, .xMin .C,
    .xMax .A, .xMax .B, .xMax .C, .stepMax .A, .stepMax .B, .stepMax .C, .threadFactor .A, .threadFactor .B,
    .threadFactor .C, .slMin, .slMax, .probation, .retryGap, .retries, .threadReserve, .tailTie, .cutWindow,
    .starveDist, .roomMark, .linkCheck, .linkPolicy]

/-- The parameter an id 1..32 names. -/
def paramOf? (id : Nat) : Option ParamId := if id = 0 then none else ParamId.all[id - 1]?

/-- Whether a parameter is of the geometry class (section 9.7). -/
def ParamId.geometry : ParamId → Bool
  | .offB | .offC | .offK | .skew _ | .missLimit | .breakLimit => true
  | _ => false

/-- The value a parameter holds (R169). -/
def Params.value (p : Params) : ParamId → Int
  | .offB => p.offB
  | .offC => p.offC
  | .offK => p.offK
  | .skew b => p.skew.get b
  | .missLimit => p.missLimit
  | .breakLimit => p.breakLimit
  | .xMin b => p.xMin.get b
  | .xMax b => p.xMax.get b
  | .stepMax b => p.stepMax.get b
  | .threadFactor b => p.threadFactor.get b
  | .slMin => p.slMin
  | .slMax => p.slMax
  | .probation => p.probation
  | .retryGap => p.retryGap
  | .retries => p.retries
  | .threadReserve => p.threadReserve
  | .tailTie => p.tailTie
  | .cutWindow => p.cutWindow
  | .starveDist => p.starveDist
  | .roomMark => p.roomMark
  | .linkCheck => if p.linkCheck then 1 else 0
  | .linkPolicy => if p.linkStop then 1 else 0

/-- The parameters with one value stored (R166). -/
def Params.store (p : Params) (id : ParamId) (v : Int) : Params :=
  match id with
  | .offB => { p with offB := v.toNat }
  | .offC => { p with offC := v.toNat }
  | .offK => { p with offK := v.toNat }
  | .skew b => { p with skew := p.skew.set b v.toNat }
  | .missLimit => { p with missLimit := v.toNat }
  | .breakLimit => { p with breakLimit := v.toNat }
  | .xMin b => { p with xMin := p.xMin.set b v }
  | .xMax b => { p with xMax := p.xMax.set b v }
  | .stepMax b => { p with stepMax := p.stepMax.set b v.toNat }
  | .threadFactor b => { p with threadFactor := p.threadFactor.set b v.toNat }
  | .slMin => { p with slMin := v.toNat }
  | .slMax => { p with slMax := v.toNat }
  | .probation => { p with probation := v.toNat }
  | .retryGap => { p with retryGap := v.toNat }
  | .retries => { p with retries := v.toNat }
  | .threadReserve => { p with threadReserve := v.toNat }
  | .tailTie => { p with tailTie := v.toNat }
  | .cutWindow => { p with cutWindow := v.toNat }
  | .starveDist => { p with starveDist := v.toNat }
  | .roomMark => { p with roomMark := v.toNat }
  | .linkCheck => { p with linkCheck := v = 1 }
  | .linkPolicy => { p with linkStop := v = 1 }

/-- Whether a number lies in a range. -/
def within (lo hi v : Int) : Bool := lo ≤ v && v ≤ hi

/-- The range of a parameter and the cross-checks of its owner (section 9.7, R7, R11, R168). -/
def State.valueAllowed (s : State) (id : ParamId) (v : Int) : Bool :=
  let p := s.params
  match id with
  | .offB => within 1 65535 v && v < p.offC
  | .offC => p.offB < v && v < p.offK
  | .offK => p.offC < v && v ≤ 1000000
  | .skew _ => within 0 39 v
  | .missLimit => within 1 15 v
  | .breakLimit => within 1 15 v
  | .xMin b => within (-4000) 0 v && v ≤ (s.bars.get b).place.x
  | .xMax b => within 0 4000 v && (s.bars.get b).place.x ≤ v
  | .stepMax _ => within 1 255 v
  | .threadFactor _ => within 1 255 v
  | .slMin => within 1 255 v && v ≤ p.slMax
  | .slMax => within 1 255 v && p.slMin ≤ v
  | .probation => within 1 255 v
  | .retryGap => within 1 1023 v
  | .retries => within 0 7 v
  | .threadReserve => within 0 2000000000 v
  | .tailTie => within 0 15 v
  | .cutWindow => within 10 10000 v
  | .starveDist => within 0 65535 v
  | .roomMark => within 0 15 v
  | .linkCheck => within 0 1 v
  | .linkPolicy => within 0 1 v

/-- Whether a bar is STOPPED with its pending run or stop not RUN. -/
def Control.atRest (c : Control) : Bool := c.run = .stopped && c.pendingRun != some .run

/-- Whether the line is at rest (R167). -/
def State.atRest (s : State) : Bool :=
  s.table.records.isEmpty && s.bars.a.control.atRest && s.bars.b.control.atRest && s.bars.c.control.atRest

/-- A needle record with its miss and break counts at 0 (R132). -/
def NeedleRecord.zeroCounts (r : NeedleRecord) : NeedleRecord := { r with misses := 0, breaks := 0 }

/-- The effect a write has of its own: STARVE_DIST re-evaluates the stored starvation state, MISS_LIMIT and
BREAK_LIMIT zero the miss and break counts of every needle (R56, R132, R166). ROOM is not stored, so that a
write of ROOM_MARK needs none (R57). -/
def State.afterWrite (s : State) : ParamId → State
  | .starveDist => s.restarve
  | .missLimit => Bar.all.foldl (fun t b => t.mapNeedles b NeedleRecord.zeroCounts) s
  | .breakLimit => Bar.all.foldl (fun t b => t.mapNeedles b NeedleRecord.zeroCounts) s
  | _ => s

/-- A value stored in a parameter, with the effect of the write. -/
def State.writeParam (s : State) (id : ParamId) (v : Int) : State :=
  ({ s with params := s.params.store id v }).afterWrite id

/-- CFWRITE at the port (R166). -/
def cfwrite (payload : List Byte) (s : State) : Answer :=
  let v := fieldSigned4 payload 1
  if payload.length ≠ 5 then refuse s .length
  else
    match paramOf? (fieldByte payload 0) with
    | none => refuse s .range
    | some id =>
      if id.geometry && !s.atRest then refuse s .busy
      else if !s.valueAllowed id v then refuse s .range
      else
        let t := s.writeParam id v
        accept t ([byte (fieldByte payload 0)] ++ signed4 (t.params.value id))

/-- CFREAD with id 0 (R169). -/
def readAllParams (s : State) : Answer :=
  accept s ([32] ++ ParamId.all.flatMap (fun id => signed4 (s.params.value id)))

/-- CFREAD at the port (R169). -/
def cfread (payload : List Byte) (s : State) : Answer :=
  if payload.length ≠ 1 then refuse s .length
  else if fieldByte payload 0 = 0 then readAllParams s
  else
    match paramOf? (fieldByte payload 0) with
    | none => refuse s .range
    | some id => accept s ([byte (fieldByte payload 0)] ++ signed4 (s.params.value id))

/-! ### The commands -/

/-- CFWRITE. -/
def execCfwrite (tag : Byte) (payload : List Byte) (s : State) : Result := request 0x50 tag (cfwrite payload) s

/-- CFWRITE of STARVE_DIST, id 29 (R56). -/
def execCfwriteStarveDist (tag : Byte) (v : BitVec 32) (s : State) : Result :=
  request 0x50 tag (cfwrite (29 :: valueBytes v)) s

/-- CFWRITE of ROOM_MARK, id 30 (R57). -/
def execCfwriteRoomMark (tag : Byte) (v : BitVec 32) (s : State) : Result :=
  request 0x50 tag (cfwrite (30 :: valueBytes v)) s

/-- CFWRITE of MISS_LIMIT, id 7 (R132). -/
def execCfwriteMissLimit (tag : Byte) (v : BitVec 32) (s : State) : Result :=
  request 0x50 tag (cfwrite (7 :: valueBytes v)) s

/-- CFWRITE of BREAK_LIMIT, id 8 (R132). -/
def execCfwriteBreakLimit (tag : Byte) (v : BitVec 32) (s : State) : Result :=
  request 0x50 tag (cfwrite (8 :: valueBytes v)) s

/-- CFREAD. -/
def execCfread (tag : Byte) (payload : List Byte) (s : State) : Result := request 0x51 tag (cfread payload) s

/-- CFREAD with id 0. -/
def execCfreadAll (tag : Byte) (s : State) : Result := request 0x51 tag readAllParams s

end Sys2Proof.Machine
end

