-- ==== Sys2Proof/Machine/Link.lean ====
section
/-! DEFINITION. The line link port: the start of a transaction, frame errors, unknown requests, NOP, and
LINECLEAR (chapter 9). -/

namespace Sys2Proof.Machine

/-! ### LINECLEAR (section 9.8) -/

/-- A bar's control fields after LINECLEAR (R110). -/
def Control.cleared (c : Control) : Control :=
  { c with
    run := .stopped
    latched := .clear
    requested := true
    pendingRun := none
    pendingOverride := none
    pendingRehearsal := none
    transfer := none }

/-- A bar context after LINECLEAR (R14, R63, R110). -/
def BarContext.cleared (c : BarContext) : BarContext where
  reference := .reset
  control := c.control.cleared
  place := { Place.reset with x := c.place.x }

/-- A sensor chain after LINECLEAR: the scan in flight is abandoned, and the clocking of the chain runs to its end
(R133). -/
def SensorChain.abandon (c : SensorChain) : SensorChain := if c = .atRest then .atRest else .abandoned

/-- The effects of LINECLEAR, as one change (R170). The messages in flight are kept. DEDUCED (log 26). Unsafe.
-/
def State.lineClear (s : State) : State :=
  { s with
    table := ⟨[], false⟩
    store := s.table.records.foldl Store.releaseRecord s.store
    cutter := { s.cutter with state := .idle, pendingHead := none, lastRetired := none }
    bars := s.bars.map BarContext.cleared
    scans := s.scans.map SensorChain.abandon }

/-- LINECLEAR at the port (R170). -/
def lineclear (payload : List Byte) (s : State) : Answer :=
  if payload.length ≠ 0 then refuse s .length
  else accept s.lineClear [byte s.table.records.length]

/-- NOP at the port (R164). -/
def nop (payload : List Byte) (s : State) : Answer :=
  if payload.length ≠ 0 then refuse s .length else accept s []

/-! ### Any request frame (R163) -/

/-- What the owner of a kind answers; UNKNOWN for a kind that is not in the catalogue (R163). -/
def ownerAnswer (kind : Byte) (payload : List Byte) (s : State) : Answer :=
  match kind.toNat with
  | 0x00 => nop payload s
  | 0x10 => ptopen payload s
  | 0x11 => ptwrite payload s
  | 0x12 => ptclose payload s
  | 0x13 => ptreopen payload s
  | 0x14 => ptdelete payload s
  | 0x15 => ptinfo payload s
  | 0x16 => ptread payload s
  | 0x18 => nswrite payload s
  | 0x19 => nsinfo payload s
  | 0x20 => pnadmit payload s
  | 0x21 => pnabort payload s
  | 0x22 => pninfo payload s
  | 0x23 => pnlast payload s
  | 0x30 => brun payload s
  | 0x31 => bstop payload s
  | 0x32 => boverride payload s
  | 0x33 => brehearse payload s
  | 0x34 => binfo payload s
  | 0x40 => ndrearm payload s
  | 0x41 => ndrestore payload s
  | 0x42 => ndretire payload s
  | 0x43 => ndload payload s
  | 0x44 => ndinfo payload s
  | 0x50 => cfwrite payload s
  | 0x51 => cfread payload s
  | 0x52 => evread payload s
  | 0x53 => evack payload s
  | 0x54 => maskset payload s
  | 0x55 => maskclear payload s
  | 0x56 => posread payload s
  | 0x57 => lineclear payload s
  | _ => refuse s .unknown

/-! ### Frame errors (section 9.5) -/

/-- The frame error response (R161). -/
def Response.frameError : Response := ⟨0, 0, .frameError, []⟩

/-- The end of a transaction: LK_SEL rises. -/
def State.endTransaction (s : State) : State := { s with link := { s.link with phase := .idle } }

/-- The effects of a frame error, taken at the rise of LK_SEL (R161). -/
def State.frameErrorTaken (s : State) (e : LinkError) : State :=
  let t := ((s.enterTransaction.respond .frameError).endTransaction).raise .linkErr (some (.linkError e))
  if t.params.linkStop then t.latchAll .link else t

/-- A transaction that the port took ends having received the whole bytes named (R158, R161): a frame error takes its
effects; an intact frame executes; an empty transaction leaves the idle response. DESIGN CHOICE (log 9).
Safe. -/
def State.transactionEnd (s : State) (bytes : List Byte) : State :=
  match receive s.params.linkCheck bytes with
  | .nothing => s.enterTransaction.endTransaction
  | .truncated => s.frameErrorTaken .truncated
  | .overlength => s.frameErrorTaken .overlength
  | .badCheck => s.frameErrorTaken .check
  | .frame kind tag payload =>
    let a := ownerAnswer kind payload s.enterTransaction
    (a.state.respond ⟨kind, tag, a.status, a.payload⟩).endTransaction

/-! ### The commands -/

/-- LINK_TRANSACTION_START: LK_SEL falls (R160). While the part does not operate it takes no transaction, and ignores
in full the one in which operation starts (R157). -/
def execLinkTransactionStart (s : State) : Result :=
  .next (if s.inputs.operates then s.beginTransaction else s.ignoreTransaction)

/-- FRAME_ERROR: a transaction ends having received the bits named; those of an incomplete last byte are discarded
(R157, R158, R161). After the frame of the transaction has executed they are fill, and LK_SEL alone rises: they are
never taken as a second frame (R157). While the part does not operate, and where the transaction is ignored, they are
neither a frame nor a frame error, and LK_SEL rises all the same (R157). DESIGN CHOICE (log 9). Safe. -/
def execFrameError (bits : List Bool) (s : State) : Result :=
  .next (if s.receiving then s.transactionEnd (wholeBytes bits) else s.endTransaction)

/-- UNKNOWN: a checked frame; a kind in the catalogue goes to its owner (R163). -/
def execUnknown (kind tag : Byte) (payload : List Byte) (s : State) : Result :=
  request kind tag (ownerAnswer kind payload) s

/-- NOP. -/
def execNop (tag : Byte) (payload : List Byte) (s : State) : Result := request 0x00 tag (nop payload) s

/-- LINECLEAR. -/
def execLineclear (tag : Byte) (payload : List Byte) (s : State) : Result :=
  request 0x57 tag (lineclear payload) s

end Sys2Proof.Machine
end

