-- ==== Sys2Proof/Machine/Restart.lean ====
section
/-! DEFINITION. Power-on, the fall of RESET_N, and pin reset (R155, R172). No row of the table takes the supply away:
`inputs.supply` is false only in a state before power-on (log 29). -/

namespace Sys2Proof.Machine

/-- A link phase as operation starts or ends: LK_SEL is low in a transaction under way, its frame executed or not, and
that transaction is ignored until LK_SEL rises (R157). With no transaction known to be under way LK_SEL is taken to be
high. PRESUMED (log 10). Unsafe. -/
def LinkPhase.atStart : LinkPhase → LinkPhase
  | .opened => .ignored
  | .answered => .ignored
  | .ignored => .ignored
  | .idle => .idle

/-- The start of operation: every block at its values after reset, the inputs as they show, RESTARTED raised
with the cause (R2, R138, R155, R171, R172). The queue of commands is outside the part, and the count of open
choices is the model's. -/
def State.startOperation (s : State) (cause : RestartCause) : State :=
  { State.reset with
    pending := s.pending
    inputs := { s.inputs with supply := true, resetN := true }
    events := eventsAtStart cause
    link := { LinkPort.reset with phase := s.link.phase.atStart }
    choices := s.choices }

/-- A bar context at the fall of RESET_N: the select transfer and the lateral command are dropped (R172). -/
def BarContext.dropped (c : BarContext) : BarContext :=
  { c with control := { c.control with transfer := none, driveCommand := none } }

/-- What the fall of RESET_N drops: select transfers, scans, lateral commands, the pending cut, the link
transaction, the strokes not yet taken and the messages in flight (R172). DEDUCED (log 13). Safe. -/
def State.dropOperations (s : State) : State :=
  { s with
    inputs := { s.inputs with resetN := false }
    bars := s.bars.map BarContext.dropped
    scans := .const .atRest
    table := { s.table with records := s.table.records.map (fun r => { r with cutPending := false }) }
    cutter := { s.cutter with state := .idle, pendingHead := none }
    link := { LinkPort.reset with phase := s.link.phase.atStart }
    messages := []
    strokesDue := .const 0 }

/-- The state with the RESET_N level taken. -/
def State.setResetN (s : State) (level : Bool) : State := { s with inputs := { s.inputs with resetN := level } }

/-- POWER_ON: the supply is good and operation starts (R155). DESIGN CHOICE (log 14). Safe. -/
def execPowerOn (s : State) : Result := .next (s.startOperation .power)

/-- RESET_N_LOW: RESET_N falls. During operation it ends every operation in flight; before it only the level is
followed (R172). -/
def execResetNLow (s : State) : Result :=
  .next (if s.inputs.operates then s.dropOperations else s.setResetN false)

/-- PIN_RESET: RESET_N is released, and operation starts where the supply is good (R155, R172). DESIGN CHOICE
(log 14, 29). Safe. -/
def execPinReset (s : State) : Result :=
  .next (if s.inputs.supply then s.startOperation .pin else s.setResetN true)

end Sys2Proof.Machine
end

