-- ==== Sys2Proof/Machine/Dispatch.lean ====
section
/-! DEFINITION. The meaning of each command: one direct call for each row of the table of operations and
events. -/

namespace Sys2Proof.Machine

/-- The effect of a command on everything but the queue of commands. -/
def exec (i : Instr) (s : State) : Host.Outcome State Fault Refusal :=
  match i with
  | .powerOn => Sys2Proof.Machine.execPowerOn s
  | .resetNLow => Sys2Proof.Machine.execResetNLow s
  | .pinReset => Sys2Proof.Machine.execPinReset s
  | .countArrival webA webB => Sys2Proof.Machine.execCountArrival webA webB s
  | .cutWindowExpiry webA webB => Sys2Proof.Machine.execCutWindowExpiry webA webB s
  | .cutDone => Sys2Proof.Machine.execCutDone s
  | .freeze asserted => Sys2Proof.Machine.execFreeze asserted s
  | .driveFault bar asserted => Sys2Proof.Machine.execDriveFault bar asserted s
  | .strokeEvent bar => Sys2Proof.Machine.execStrokeEvent bar s
  | .selectEcho bar echo => Sys2Proof.Machine.execSelectEcho bar echo s
  | .barStatusMessage m => Sys2Proof.Machine.execBarStatusMessage m s
  | .defectNotice n => Sys2Proof.Machine.execDefectNotice n s
  | .consumptionNotice n => Sys2Proof.Machine.execConsumptionNotice n s
  | .scanRequest r => Sys2Proof.Machine.execScanRequest r s
  | .retryCountdownExpiry needle r => Sys2Proof.Machine.execRetryCountdownExpiry needle r s
  | .scanDataArrival bar channels => Sys2Proof.Machine.execScanDataArrival bar channels s
  | .linkTransactionStart => Sys2Proof.Machine.execLinkTransactionStart s
  | .frameError bits => Sys2Proof.Machine.execFrameError bits s
  | .unknown kind tag payload => Sys2Proof.Machine.execUnknown kind tag payload s
  | .nop tag payload => Sys2Proof.Machine.execNop tag payload s
  | .ptopen tag payload => Sys2Proof.Machine.execPtopen tag payload s
  | .ptwrite tag payload => Sys2Proof.Machine.execPtwrite tag payload s
  | .ptclose tag payload => Sys2Proof.Machine.execPtclose tag payload s
  | .ptreopen tag payload => Sys2Proof.Machine.execPtreopen tag payload s
  | .ptdelete tag payload => Sys2Proof.Machine.execPtdelete tag payload s
  | .ptinfo tag payload => Sys2Proof.Machine.execPtinfo tag payload s
  | .ptinfoPageMap tag => Sys2Proof.Machine.execPtinfoPageMap tag s
  | .ptread tag payload => Sys2Proof.Machine.execPtread tag payload s
  | .nswrite tag payload => Sys2Proof.Machine.execNswrite tag payload s
  | .nsinfo tag payload => Sys2Proof.Machine.execNsinfo tag payload s
  | .pnadmit tag payload => Sys2Proof.Machine.execPnadmit tag payload s
  | .pnabort tag payload => Sys2Proof.Machine.execPnabort tag payload s
  | .pninfo tag payload => Sys2Proof.Machine.execPninfo tag payload s
  | .pninfoTable tag => Sys2Proof.Machine.execPninfoTable tag s
  | .pnlast tag payload => Sys2Proof.Machine.execPnlast tag payload s
  | .brun tag payload => Sys2Proof.Machine.execBrun tag payload s
  | .bstop tag payload => Sys2Proof.Machine.execBstop tag payload s
  | .boverride tag payload => Sys2Proof.Machine.execBoverride tag payload s
  | .brehearse tag payload => Sys2Proof.Machine.execBrehearse tag payload s
  | .binfo tag payload => Sys2Proof.Machine.execBinfo tag payload s
  | .ndrearm tag payload => Sys2Proof.Machine.execNdrearm tag payload s
  | .ndrestore tag payload => Sys2Proof.Machine.execNdrestore tag payload s
  | .ndretire tag payload => Sys2Proof.Machine.execNdretire tag payload s
  | .ndload tag payload => Sys2Proof.Machine.execNdload tag payload s
  | .ndinfo tag payload => Sys2Proof.Machine.execNdinfo tag payload s
  | .ndinfoBar tag bar => Sys2Proof.Machine.execNdinfoBar tag bar s
  | .cfwrite tag payload => Sys2Proof.Machine.execCfwrite tag payload s
  | .cfwriteStarveDist tag value => Sys2Proof.Machine.execCfwriteStarveDist tag value s
  | .cfwriteRoomMark tag value => Sys2Proof.Machine.execCfwriteRoomMark tag value s
  | .cfwriteMissLimit tag value => Sys2Proof.Machine.execCfwriteMissLimit tag value s
  | .cfwriteBreakLimit tag value => Sys2Proof.Machine.execCfwriteBreakLimit tag value s
  | .cfread tag payload => Sys2Proof.Machine.execCfread tag payload s
  | .cfreadAll tag => Sys2Proof.Machine.execCfreadAll tag s
  | .evread tag payload => Sys2Proof.Machine.execEvread tag payload s
  | .evack tag payload => Sys2Proof.Machine.execEvack tag payload s
  | .maskset tag payload => Sys2Proof.Machine.execMaskset tag payload s
  | .maskclear tag payload => Sys2Proof.Machine.execMaskclear tag payload s
  | .posread tag payload => Sys2Proof.Machine.execPosread tag payload s
  | .lineclear tag payload => Sys2Proof.Machine.execLineclear tag payload s
  | .strokeFall => Sys2Proof.Machine.execStrokeFall s
  | .cutDoneFall => Sys2Proof.Machine.execCutDoneFall s

end Sys2Proof.Machine
end

