-- ==== Sys2Proof/Machine/Outputs.lean ====
section
/-! DEFINITION. What the part drives on its outputs, but for the attention lines (Machine/Flags.lean): CUT_REQ, LK_DO,
the shift-drive links, the latch chains and the scan chains. While the part does not operate all are low, idle or not
driven (R172). -/

namespace Sys2Proof.Machine

/-- Whether CUT_REQ is driven high (R134, R172). -/
def State.cutRequest (s : State) : Bool := s.inputs.operates && s.cutter.state == .requesting

/-- The byte the port sends as the n-th of a transaction: the frame taken for output, and 0x00 past its end
(R157, R160). -/
def LinkPort.outByte (l : LinkPort) (n : Nat) : Byte := l.output.bytes.getD n 0

/-- Whether LK_DO is driven: within a transaction that the port takes (R157, R172). That it is not driven in an
ignored one is the model's reading. DEDUCED (log 30). Unsafe. -/
def State.drivesLine (s : State) : Bool :=
  s.inputs.operates && (s.link.phase == .opened || s.link.phase == .answered)

/-- The n-th bit that LK_DO carries in a transaction, each byte most significant bit first; absent while LK_DO is not
driven (R157, R172). -/
def State.lineOut (s : State) (n : Nat) : Option Bool :=
  if s.drivesLine then some ((s.link.outByte (n / 8)).getLsbD (7 - n % 8)) else none

/-- The lateral command last sent on a bar's shift-drive link; absent while the link is idle (R103, R172). -/
def State.driveOut (s : State) (b : Bar) : Option (BitVec 16) :=
  if s.inputs.operates then (s.bars.get b).control.driveCommand else none

/-- The n-th bit that DRV_DAT_b carries of a lateral command, most significant bit first; absent past its 16 bits and
while the link is idle (R103, R172). -/
def State.driveBit (s : State) (b : Bar) (n : Nat) : Option Bool :=
  if n < 16 then (s.driveOut b).map (·.getLsbD (15 - n)) else none

/-- The select frame of the transfer in flight, position n for needle n; absent while no transfer is in flight (R105,
R172). DESIGN CHOICE for a transfer that was abandoned (log 31). Unsafe. -/
def State.selectOut (s : State) (b : Bar) : Option NeedleSet :=
  if s.inputs.operates then (s.bars.get b).control.transfer.map (·.needles) else none

/-- Whether a bar's sensor chain is being clocked: for a scan in flight, or to its end after LINECLEAR has abandoned one
(R113, R133, R172). -/
def State.scanOut (s : State) (b : Bar) : Bool := s.inputs.operates && s.scans.get b != .atRest

end Sys2Proof.Machine
end

