-- ==== Sys2Proof/Safety.lean ====
section
/-! DEFINITION. The terms in which claims about the part are stated: when the port takes a request and what it
holds after answering one, and the conditions on the state that the rules say always hold. -/

namespace Sys2Proof.Machine

/-! ### Requests -/

/-- The port takes request frames: the part operates and LK_SEL was not low when it started (R157). -/
def State.takesFrames (s : State) : Prop := s.inputs.operates = true ∧ s.link.phase ≠ .ignored

/-- The port after a request has been answered: the response in the slot with the kind and tag echoed, and for
output the frame the slot held at the fall of LK_SEL (R160, R163). -/
def LinkPort.answered (l : LinkPort) (kind tag : Byte) (status : Status) (payload : List Byte) : LinkPort where
  slot := ⟨kind, tag, status, payload⟩
  output := if l.phase = .opened then l.output else l.slot
  phase := .answered

/-- The state with nothing changed but the port, which has answered a request. -/
def State.answered (s : State) (kind tag : Byte) (status : Status) (payload : List Byte) : State :=
  { s with link := s.link.answered kind tag status payload }

/-! ### Parameters -/

/-- Every parameter lies in its range, and the orders between parameters hold (section 9.7, R7, R11, R165). -/
structure Params.Wf (p : Params) : Prop where
  offsets : 1 ≤ p.offB ∧ p.offB ≤ 65535 ∧ p.offB < p.offC ∧ p.offC < p.offK ∧ p.offK ≤ 1000000
  skew : ∀ b, p.skew.get b ≤ 39
  missLimit : 1 ≤ p.missLimit ∧ p.missLimit ≤ 15
  breakLimit : 1 ≤ p.breakLimit ∧ p.breakLimit ≤ 15
  xMin : ∀ b, -4000 ≤ p.xMin.get b ∧ p.xMin.get b ≤ 0
  xMax : ∀ b, 0 ≤ p.xMax.get b ∧ p.xMax.get b ≤ 4000
  stepMax : ∀ b, 1 ≤ p.stepMax.get b ∧ p.stepMax.get b ≤ 255
  threadFactor : ∀ b, 1 ≤ p.threadFactor.get b ∧ p.threadFactor.get b ≤ 255
  stitchLengths : 1 ≤ p.slMin ∧ p.slMin ≤ p.slMax ∧ p.slMax ≤ 255
  probation : 1 ≤ p.probation ∧ p.probation ≤ 255
  retryGap : 1 ≤ p.retryGap ∧ p.retryGap ≤ 1023
  retries : p.retries ≤ 7
  threadReserve : p.threadReserve ≤ 2000000000
  tailTie : p.tailTie ≤ 15
  cutWindow : 10 ≤ p.cutWindow ∧ p.cutWindow ≤ 10000
  starveDist : p.starveDist ≤ 65535
  roomMark : p.roomMark ≤ 15

/-- The values of the 32 parameters in the order of their ids (section 9.7). -/
def Params.values (p : Params) : List Int :=
  [p.offB, p.offC, p.offK, p.skew.a, p.skew.b, p.skew.c, p.missLimit, p.breakLimit, p.xMin.a, p.xMin.b, p.xMin.c,
    p.xMax.a, p.xMax.b, p.xMax.c, p.stepMax.a, p.stepMax.b, p.stepMax.c, p.threadFactor.a, p.threadFactor.b,
    p.threadFactor.c, p.slMin, p.slMax, p.probation, p.retryGap, p.retries, p.threadReserve, p.tailTie, p.cutWindow,
    p.starveDist, p.roomMark, if p.linkCheck then 1 else 0, if p.linkStop then 1 else 0]

/-- What a write of a parameter by its id must meet besides rest: the range of the table of section 9.7 and the owner's
cross-checks, given the commanded positions X of the bars (R7, R11, R166, R168). -/
def Params.Admits (p : Params) (x : Bar → Int) (id : Nat) (v : Int) : Prop :=
  match id with
  | 1 => 1 ≤ v ∧ v ≤ 65535 ∧ v < p.offC
  | 2 => p.offB < v ∧ v < p.offK
  | 3 => p.offC < v ∧ v ≤ 1000000
  | 4 => 0 ≤ v ∧ v ≤ 39
  | 5 => 0 ≤ v ∧ v ≤ 39
  | 6 => 0 ≤ v ∧ v ≤ 39
  | 7 => 1 ≤ v ∧ v ≤ 15
  | 8 => 1 ≤ v ∧ v ≤ 15
  | 9 => -4000 ≤ v ∧ v ≤ 0 ∧ v ≤ x .A
  | 10 => -4000 ≤ v ∧ v ≤ 0 ∧ v ≤ x .B
  | 11 => -4000 ≤ v ∧ v ≤ 0 ∧ v ≤ x .C
  | 12 => 0 ≤ v ∧ v ≤ 4000 ∧ x .A ≤ v
  | 13 => 0 ≤ v ∧ v ≤ 4000 ∧ x .B ≤ v
  | 14 => 0 ≤ v ∧ v ≤ 4000 ∧ x .C ≤ v
  | 15 => 1 ≤ v ∧ v ≤ 255
  | 16 => 1 ≤ v ∧ v ≤ 255
  | 17 => 1 ≤ v ∧ v ≤ 255
  | 18 => 1 ≤ v ∧ v ≤ 255
  | 19 => 1 ≤ v ∧ v ≤ 255
  | 20 => 1 ≤ v ∧ v ≤ 255
  | 21 => 1 ≤ v ∧ v ≤ 255 ∧ v ≤ p.slMax
  | 22 => 1 ≤ v ∧ v ≤ 255 ∧ p.slMin ≤ v
  | 23 => 1 ≤ v ∧ v ≤ 255
  | 24 => 1 ≤ v ∧ v ≤ 1023
  | 25 => 0 ≤ v ∧ v ≤ 7
  | 26 => 0 ≤ v ∧ v ≤ 2000000000
  | 27 => 0 ≤ v ∧ v ≤ 15
  | 28 => 10 ≤ v ∧ v ≤ 10000
  | 29 => 0 ≤ v ∧ v ≤ 65535
  | 30 => 0 ≤ v ∧ v ≤ 15
  | 31 => 0 ≤ v ∧ v ≤ 1
  | 32 => 0 ≤ v ∧ v ≤ 1
  | _ => False

/-- The line is at rest (R167). -/
def State.Resting (s : State) : Prop :=
  s.table.records = [] ∧ ∀ b, (s.bars.get b).control.run = .stopped ∧ (s.bars.get b).control.pendingRun ≠ some .run

/-! ### Pattern store -/

/-- The store is as R16, R17, R20, R21, R23 and R36 say it always is. -/
structure Store.Wf (st : Store) : Prop where
  entries : ∀ (g : PageNo) (i : EntryNo), (st.entry (g, i)).wf = true
  free : ∀ (g : PageNo) (i : EntryNo), st.owner[g] = none → st.entry (g, i) = .empty
  empty : ∀ p : PatternId, st.patterns[p].state = .empty →
    st.patterns[p] = .blank ∧ ∀ g : PageNo, st.owner[g] ≠ some p
  homed : ∀ p : PatternId, st.patterns[p].state ≠ .empty →
    ∃ h, st.patterns[p].home = some h ∧ st.owner[h] = some p
  opened : ∀ p : PatternId, st.patterns[p].state = .opened →
    st.patterns[p].endless = false ∧ st.patterns[p].useCount = 0
  setZero : st.sets[(0 : SetNo)] = ⟨0, 0⟩

/-- Whether the closing walk of a pattern steps from one place to another: to the next entry of the page from a
LINE or LOCK and from a CALL of another pattern that is CLOSED, to entry 0 of a page the pattern owns from a LINK
(R27). -/
def Store.Follows (st : Store) (p : PatternId) (a b : Place2) : Prop :=
  match st.entry a with
  | .line .. => b = (a.1, a.2 + 1)
  | .lock .. => b = (a.1, a.2 + 1)
  | .call m _ => m ≠ p ∧ st.patterns[m].state = .closed ∧ b = (a.1, a.2 + 1)
  | .link g => st.owner[g] = some p ∧ b = (g, 0)
  | .fin => False
  | .empty => False

/-- The walked path of a pattern: of a CLOSED one the path of its closing walk, else none (R28, R30). -/
def Store.pathOf (st : Store) (p : PatternId) : List Place2 :=
  match st.patterns[p].state, st.patterns[p].home with
  | .closed, some home =>
    match st.closingWalk p home with
    | .closed _ path => path
    | .failed .. => []
  | _, _ => []

/-- How many entries of a path are CALLs of a motif. -/
def Store.callsOn (st : Store) (path : List Place2) (m : PatternId) : Nat :=
  path.countP (fun a => match st.entry a with
    | .call m' _ => m' = m
    | _ => false)

/-- How many entries of a path are LINEs and LOCKs that name a set 1..63; set 0 is not counted (R17). -/
def Store.namesOn (st : Store) (path : List Place2) (n : SetNo) : Nat :=
  if n = 0 then 0
  else path.countP (fun a => match st.entry a with
    | .line n' _ _ => n' = n
    | .lock n' _ _ => n' = n
    | _ => false)

/-- The counts of a store are those of the live records and the walked paths of its CLOSED patterns: a use count is the
number of bar references and of CALLs, a reference count the number of width sets and of LINEs and LOCKs that name the
set; and a CLOSED pattern's closing walk goes as its closing found it (R17, R30, R36). -/
structure Store.Counted (st : Store) (records : List PanelRecord) : Prop where
  walks : ∀ p : PatternId, st.patterns[p].state = .closed → ∃ home path, st.patterns[p].home = some home
    ∧ st.closingWalk p home = .closed st.patterns[p].endless path
  uses : ∀ m : PatternId, st.patterns[m].useCount
    = (records.map (fun r => Bar.all.countP (fun b => (r.bars.get b).pattern = some m))).sum
      + ((List.finRange 32).map (fun p => st.callsOn (st.pathOf p) m)).sum
  refs : ∀ n : SetNo, n ≠ 0 → st.sets[n].refCount
    = (records.map (fun r => Bar.all.countP (fun b => (r.bars.get b).widthSet = some n))).sum
      + ((List.finRange 32).map (fun p => st.namesOn (st.pathOf p) n)).sum

/-! ### Panel table and cutter sequence -/

/-- A panel record as admission and the folds leave it (section 3.1, R38, R51, R52). -/
structure PanelRecord.Wf (r : PanelRecord) : Prop where
  tag : r.tag ≠ 0
  length : 1000 ≤ r.length ∧ r.length ≤ 1000000
  tailMargin : r.tailMargin ≤ 2000
  origins : ∀ b, -4000 ≤ (r.bars.get b).origin ∧ (r.bars.get b).origin ≤ 4000
  noPattern : ∀ b, (r.bars.get b).pattern = none ↔ (r.bars.get b).status = .absent
  barDefects : ∀ b, (r.bars.get b).defects ||| r.defects = r.defects
  notices : r.notices ≤ 65535
  first : r.first = none ↔ r.defects = 0

/-- The table holds at most 16 records, each as it should be, and no two carry the same tag (R39). -/
structure PanelTable.Wf (t : PanelTable) : Prop where
  count : t.records.length ≤ 16
  records : ∀ r ∈ t.records, r.Wf
  tags : (t.records.map (·.tag)).Nodup

/-- No live record begins before the end of one ahead of it (R39). -/
def PanelTable.Ordered (t : PanelTable) : Prop :=
  t.records.Pairwise (fun r q => 0 ≤ webDist q.head (r.head + BitVec.ofNat 32 r.length))

/-- Every live record lies within 2^29 counts of the web, so that the distances between records are exact (R5). -/
def State.Exact (s : State) : Prop :=
  ∀ r ∈ s.table.records, -536870912 ≤ webDist r.head s.w ∧ webDist r.head s.w ≤ 536870912

/-- The mark folded for a bar when its panel's cut becomes pending (R137). -/
def PanelRecord.pendingMark (r : PanelRecord) (b : Bar) : Option DefectKind :=
  match (r.bars.get b).status with
  | .notReached => some .barSkipped
  | .sewing => some .barShort
  | _ => none

/-- A record before and after its cut becomes pending, given the Y of each bar: NOT_REACHED becomes SKIPPED and SEWING
SHORT, and each mark counts as one fold, bars A, B and C in turn (R52, R136, R137). -/
def PanelRecord.Settles (r q : PanelRecord) (y : Bar → Int) : Prop :=
  (∀ b, q.bars.get b = { r.bars.get b with
    status := match (r.bars.get b).status with
      | .notReached => .skipped
      | .sewing => .short
      | st => st
    defects := (r.bars.get b).defects ||| ((r.pendingMark b).map DefectKind.bit).getD 0 })
  ∧ q = { r with
      cutPending := true
      bars := q.bars
      defects := Bar.all.foldl (fun d b => d ||| ((r.pendingMark b).map DefectKind.bit).getD 0) r.defects
      notices := Bar.all.foldl (fun n b => if (r.pendingMark b).isSome then min (n + 1) 65535 else n) r.notices
      first := r.first.or (Bar.all.findSome? (fun b => (r.pendingMark b).map (fun k => ⟨k, some b, y b⟩))) }

/-- The settlement makes the record's first defect present (R52, R137). -/
def PanelRecord.SettlesFirst (r : PanelRecord) : Prop := r.first = none ∧ ∃ b, r.pendingMark b ≠ none

/-- In IDLE no cut is pending; in REQUESTING and REARMING the pending head names the record at the front,
which alone has its cut state PENDING (R134). -/
def State.CutterWf (s : State) : Prop :=
  match s.cutter.state with
  | .idle => s.cutter.pendingHead = none ∧ ∀ r ∈ s.table.records, r.cutPending = false
  | _ => ∃ r rest, s.table.records = r :: rest ∧ r.cutPending = true ∧ s.cutter.pendingHead = some r.head
      ∧ ∀ q ∈ rest, q.cutPending = false

/-- A sticky source raised once: the count rises to at most 255, and the detail is the one given (R147). -/
def raised (slot : EventSlot) (d : Detail) : EventSlot := ⟨min (slot.count + 1) 255, some d⟩

/-- A sticky source before and after the needles of a bar that meet a condition have raised it, in ascending order, so
that the last of them is the detail (R116, R147). -/
def EventSlot.RaisedFor (before after : EventSlot) (b : Bar) (met : NeedleNo → Prop) : Prop :=
  ∃ ns : List NeedleNo, ns.Pairwise (· < ·) ∧ (∀ n, n ∈ ns ↔ met n)
    ∧ after = ns.foldl (fun slot n => raised slot (.needle b n)) before

/-- The starvation condition of a queue of records at a web position (R55). -/
def Starves (p : Params) (w : Word) (records : List PanelRecord) : Prop :=
  ∃ newest, records.getLast? = some newest ∧ (∀ r ∈ records, 0 ≤ webDist w r.head)
    ∧ webDist (newest.head + BitVec.ofNat 32 newest.length) w ≤ p.starveDist

/-- The stored starvation state follows the condition at a W arrival, and STARVE is raised when it turns to starving
(R55). -/
def State.StarvesBy (s t : State) : Prop :=
  (t.table.starving = true ↔ Starves t.params t.w t.table.records)
  ∧ t.event .starve = if t.table.starving = true ∧ s.table.starving = false then
      ⟨min ((s.event .starve).count + 1) 255, (s.event .starve).detail⟩
    else s.event .starve

/-- No bar has entered or passed a record (R45). -/
def State.Untouched (s : State) (r : PanelRecord) : Prop :=
  ∀ b c, (s.bars.get b).place.current = some c → webDist c.head r.head < 0

/-- The record that a name finds first in the queue: `pre` and `post` are the records before and after it, and
none before it has its name. -/
def State.Holds {α : Type} (s : State) (name : PanelRecord → α) (pre : List PanelRecord) (r : PanelRecord)
    (post : List PanelRecord) : Prop :=
  s.table.records = pre ++ r :: post ∧ ∀ q ∈ pre, name q ≠ name r

/-- The lowest-numbered kind of a set (R52). -/
def LowestKind (kinds : DefectSet) (k : DefectKind) : Prop :=
  kinds.getLsbD k.number = true ∧ ∀ j : DefectKind, kinds.getLsbD j.number = true → k.number ≤ j.number

/-! ### Strokes -/

/-- A stroke event of a bar arrives: the part operates, and a pulse of STROKE has risen that the bar has not taken,
or the input rises now (R171). -/
def State.StrokeArrives (s : State) (b : Bar) : Prop :=
  s.inputs.operates = true ∧ (s.strokesDue.get b ≠ 0 ∨ s.inputs.stroke = false)

/-- A stroke event of a bar arrives that finds none of the bar's messages still in flight. -/
def State.StrokesAlone (s : State) (b : Bar) : Prop :=
  s.StrokeArrives b ∧ ∀ m ∈ s.messages, m.sentBy b = false

/-- The bar's next stroke is a running stroke: no latched and no level reason is present, and a RUN is taken or a
RUNNING bar without the requested halt goes on (R92, R95). -/
def State.RunsNext (s : State) (b : Bar) : Prop :=
  let c := (s.bars.get b).control
  c.latched = ⟨false, false, false, false⟩ ∧ s.inputs.freeze = false ∧ s.inputs.driveFault.get b = false
    ∧ (c.pendingRun = some .run ∨ c.pendingRun = none ∧ c.requested = false ∧ c.run = .running)

/-- The rehearsal flag the bar's next stroke uses (R95). -/
def State.rehearsalNext (s : State) (b : Bar) : Bool :=
  let c := (s.bars.get b).control
  c.pendingRehearsal.getD c.rehearsal

/-- The override set the bar's next stroke uses (R95). -/
def State.overrideNext (s : State) (b : Bar) : NeedleSet :=
  let c := (s.bars.get b).control
  c.pendingOverride.getD c.override

/-- The advance of the bar's next stroke, when its reference is present (R8). -/
def State.AdvanceIs (s : State) (b : Bar) (adv : Int) : Prop :=
  ∃ last, (s.bars.get b).reference.last = some last ∧ adv = webDist s.w last

/-- The bar's next stroke is of class NORMAL or LONG (R9). -/
def State.ForwardNext (s : State) (b : Bar) : Prop := ∃ adv, s.AdvanceIs b adv ∧ (s.params.slMin : Int) ≤ adv

/-- The stroke's Y for a head (section 4.1). -/
def State.yAt (s : State) (b : Bar) (head : Word) : Int := webDist (s.linePosition b) head

/-- The bar's line lies in a panel (R64). -/
def State.Over (s : State) (b : Bar) (r : PanelRecord) : Prop := 0 ≤ s.yAt b r.head ∧ s.yAt b r.head < r.length

/-- A record is the one covering the bar's line (R64). -/
def State.Covers (s : State) (b : Bar) (r : PanelRecord) : Prop :=
  ∃ pre post, s.table.records = pre ++ r :: post ∧ s.Over b r ∧ ∀ q ∈ pre, ¬ s.Over b q

/-- The bar stands in a panel that it has entered, and its line still lies in it. -/
def State.StandsIn (s : State) (b : Bar) (r : PanelRecord) : Prop :=
  s.Covers b r ∧ (s.bars.get b).place.current = some ⟨r.head, .inside⟩

/-- The needles a bar engages on a segment set over a panel: those of the set and of the width set that are READY or
PROBATION and not overridden, none on an aborted panel (R85). -/
def State.Engages (s : State) (b : Bar) (r : PanelRecord) (segment : NeedleSet) (n : NeedleNo) : Prop :=
  segment.getLsbD n.val = true ∧ r.aborted = false
    ∧ (∀ w, (r.bars.get b).widthSet = some w → s.store.sets[w].members.getLsbD n.val = true)
    ∧ ((s.needle b n).state = .ready ∨ (s.needle b n).state = .probation)
    ∧ (s.overrideNext b).getLsbD n.val = false

/-! ### What a stroke tells and notes

These terms are for a stroke that finds none of the bar's messages in flight, so that it only adds messages. -/

/-- The stroke leaves a kind noted on the panel of a head, in a notice with the stroke's Y (R88). -/
def State.Notes (s t : State) (b : Bar) (head : Word) (k : DefectKind) : Prop :=
  ∃ kinds : DefectSet, .notice ⟨b, head, kinds, s.yAt b head⟩ ∈ t.messages.drop s.messages.length
    ∧ kinds.getLsbD k.number = true

/-- The stroke sends exactly the status messages told and notes exactly the kinds noted, panel by panel. -/
def State.Sends (s t : State) (b : Bar) (told : StatusMessage → Prop) (noted : Word → DefectKind → Prop) : Prop :=
  (∀ m, .status m ∈ t.messages.drop s.messages.length ↔ told m) ∧ ∀ h k, s.Notes t b h k ↔ noted h k

/-- The bar's next stroke overtakes a select transfer of a panel, and so notes SELECT_LATE on it (R107). -/
def State.NotesLate (s : State) (b : Bar) (head : Word) (k : DefectKind) : Prop :=
  k = .selectLate ∧ ∃ f, (s.bars.get b).control.transfer = some f ∧ f.panel = some head

/-- The bar's next stroke is of class LONG (R9). -/
def State.LongNext (s : State) (b : Bar) : Prop :=
  ∃ adv, s.AdvanceIs b adv ∧ 0 ≤ adv ∧ (s.params.slMin : Int) ≤ adv ∧ (s.params.slMax : Int) < adv

/-- What every placement stroke notes on its panel: LONG_STITCH when it is LONG, REHEARSED in rehearsal (R70, R86). -/
def State.NotesPlacing (s : State) (b : Bar) (k : DefectKind) : Prop :=
  k = .longStitch ∧ s.LongNext b ∨ k = .rehearsed ∧ s.rehearsalNext b = true

/-- The live record of the panel that the bar is in. -/
def State.InPanel (s : State) (b : Bar) (r : PanelRecord) : Prop :=
  (s.bars.get b).place.current = some ⟨r.head, .inside⟩ ∧ ∃ pre post, s.Holds (·.head) pre r post

/-- The set that the entry under the bar's cursor names: that of a LINE or LOCK, else the empty set (R77). -/
def State.TieSet (s : State) (b : Bar) (set : NeedleSet) : Prop :=
  (∃ c segment, (s.bars.get b).place.cursor = some c ∧ set = s.store.sets[segment].members
    ∧ ((∃ dy dx, s.store.entry (c.page, c.index) = .line segment dy dx)
      ∨ ∃ n a, s.store.entry (c.page, c.index) = .lock segment n a))
  ∨ set = 0 ∧ ∀ c, (s.bars.get b).place.cursor = some c → ∀ segment : SetNo,
      (∀ dy dx, s.store.entry (c.page, c.index) ≠ .line segment dy dx)
      ∧ ∀ n a, s.store.entry (c.page, c.index) ≠ .lock segment n a

/-- The bar would leave a panel with its tie cut short: on a LOCK sewn in part, or with fewer tie strokes done than
TAIL_TIE asks of a set that is not empty (R79). -/
def State.TieCut (s : State) (b : Bar) (r : PanelRecord) : Prop :=
  let q := (s.bars.get b).place
  r.aborted = false
  ∧ ((∃ c segment n a, q.cursor = some c ∧ s.store.entry (c.page, c.index) = .lock segment n a
      ∧ 1 ≤ q.lockCount ∧ q.lockCount < n)
    ∨ 1 ≤ r.tailMargin ∧ 1 ≤ s.params.tailTie ∧ (∃ set, s.TieSet b set ∧ set ≠ 0)
      ∧ (match q.tail with
        | .outside => 0
        | .tie done => done) < s.params.tailTie)

/-- What the bar tells the panel it is in when it leaves it: DONE when it stroked within SL_MAX of the end, else SHORT,
and nothing when it was stopped there or the panel has no pattern for it (R69). -/
def State.TellsLeaving (s : State) (b : Bar) (m : StatusMessage) : Prop :=
  ∃ r, s.InPanel b r ∧ (r.bars.get b).pattern ≠ none ∧ (s.bars.get b).place.stoppedInPanel = false
    ∧ m = ⟨b, r.head, if (r.length : Int) - s.params.slMax ≤ (s.bars.get b).place.lastY then .done else .short⟩

/-- What the bar notes on the panel it is in when it leaves it: BAR_SHORT with SHORT, TIE_SHORT with a tie cut short
(R69, R79). -/
def State.NotesLeaving (s : State) (b : Bar) (head : Word) (k : DefectKind) : Prop :=
  ∃ r, s.InPanel b r ∧ r.head = head ∧ (r.bars.get b).pattern ≠ none
    ∧ (k = .barShort ∧ (s.bars.get b).place.stoppedInPanel = false
        ∧ (s.bars.get b).place.lastY < (r.length : Int) - s.params.slMax
      ∨ k = .tieShort ∧ s.TieCut b r)

/-- The bar's placement context as entering a panel leaves it (R67). A pattern without a home page, which no run has,
starts on page 0 (log 19). -/
def State.entered (s : State) (b : Bar) (r : PanelRecord) : Place :=
  { (s.bars.get b).place with
    current := some ⟨r.head, .inside⟩
    stoppedInPanel := false
    lastY := s.yAt b r.head
    cursor := (r.bars.get b).pattern.map (fun p => ⟨p, s.store.patterns[p].home.getD 0, 0⟩)
    ys := 0
    ps := 0
    lockCount := 0
    tail := .outside
    finished := false
    stack := []
    p := 0 }

/-- The state with one bar's placement context replaced. -/
def State.withPlace (s : State) (b : Bar) (q : Place) : State :=
  { s with bars := s.bars.set b { s.bars.get b with place := q } }

/-! ### The cursor walk -/

/-- The cursor stands on a covering segment: a LINE that reaches past Y, or a LOCK with strokes left (R71). -/
def Store.Covered (st : Store) (y : Int) (q : Place) : Prop :=
  ∃ c, q.cursor = some c
    ∧ ((∃ set dy dx, st.entry (c.page, c.index) = .line set dy dx ∧ y - q.ys < dy)
      ∨ ∃ set n a, st.entry (c.page, c.index) = .lock set n a ∧ q.lockCount < n)

/-- The cursor stands on a CALL with the motif stack full, which a step passes over (R74). -/
def Store.PassesOver (st : Store) (q : Place) : Prop :=
  ∃ c m n, q.cursor = some c ∧ st.entry (c.page, c.index) = .call m n ∧ 4 ≤ q.stack.length

/-- One step of the cursor walk at a stroke with a given Y, in a panel whose pattern for the bar is `own` (R72 to R76).
A LINE is left with its dy and dx taken, a LOCK at the stroke's Y; a CALL pushes a frame, or is passed over on a full
stack; an END repeats the motif on top, ends it, or finishes the pattern; a LINK goes to its page. -/
def Store.StepsTo (st : Store) (own : PatternId) (y : Int) (q q' : Place) : Prop :=
  ∃ c, q.cursor = some c
    ∧ let next : Cursor := { c with index := c.index + 1 }
      match st.entry (c.page, c.index) with
      | .line _ dy dx => q' = { q with
          ys := q.ys + dy
          ps := max (-65535) (min 65535 (q.ps + dx))
          cursor := some next }
      | .lock _ _ _ => q' = { q with ys := y, lockCount := 0, cursor := some next }
      | .call m n =>
        if q.stack.length < 4 then ∃ home, st.patterns[m].home = some home ∧ q' = { q with
          stack := { returnPage := c.page, returnIndex := c.index + 1, remaining := n, motif := m } :: q.stack
          cursor := some ⟨m, home, 0⟩ }
        else q' = { q with cursor := some next }
      | .fin =>
        match q.stack with
        | [] => q' = { q with finished := true }
        | f :: below =>
          if 1 < f.remaining then ∃ home, st.patterns[f.motif].home = some home ∧ q' = { q with
            stack := { f with remaining := f.remaining - 1 } :: below
            cursor := some ⟨f.motif, home, 0⟩ }
          else q' = { q with
            stack := below
            cursor := some ⟨((below.head?).map (·.motif)).getD own, f.returnPage, f.returnIndex⟩ }
      | .link page => q' = { q with cursor := some ⟨c.pattern, page, 0⟩ }
      | .empty => False

/-- A walk of the cursor from one place on: every place but the last is neither covered nor finished, and a step leads
from each to the next (R71). -/
def Store.Walks (st : Store) (own : PatternId) (y : Int) (path : List Place) : Prop :=
  path.IsChain (fun a z => ¬ st.Covered y a ∧ a.finished = false ∧ st.StepsTo own y a z)

/-! ### Bar contexts -/

/-- A frame with a needle in it names the panel it sews (R90, R120). -/
def SentFrame.Wf (f : SentFrame) : Prop := f.needles = 0 ∨ f.panel.isSome = true

/-- The placement fields lie in their ranges (section 4.1, R72, R74, R78). -/
structure Place.Wf (q : Place) : Prop where
  lastY : 0 ≤ q.lastY ∧ q.lastY ≤ 999999
  ys : 0 ≤ q.ys ∧ q.ys ≤ 999999
  ps : -65535 ≤ q.ps ∧ q.ps ≤ 65535
  p : -65535 ≤ q.p ∧ q.p ≤ 65535
  lockCount : q.lockCount ≤ 15
  tail : q.tail.done ≤ 15
  depth : q.stack.length ≤ 4
  frames : ∀ f ∈ q.stack, 1 ≤ f.remaining ∧ f.remaining ≤ 255
  previous : q.previous.Wf

/-- A bar's context: its placement fields in their ranges, its commanded position within its travel limits,
and its frames naming their panels (section 4.1, R83, R105). -/
structure BarContext.Wf (p : Params) (b : Bar) (c : BarContext) : Prop where
  place : c.place.Wf
  lateral : p.xMin.get b ≤ c.place.x ∧ c.place.x ≤ p.xMax.get b
  transfer : ∀ f, c.control.transfer = some f → f.Wf

/-! ### Needle records -/

/-- A needle record as R111 says it always is. -/
structure NeedleRecord.Wf (p : Params) (r : NeedleRecord) : Prop where
  misses : r.misses < p.missLimit
  breaks : r.breaks ≤ p.breakLimit
  inUse : r.state ≠ .retired → r.breaks < p.breakLimit
  threadOut : r.state = .threadOut → r.thread = 0
  noThread : r.thread = 0 → r.state = .threadOut ∨ r.state = .retired
  thread : r.thread ≤ 2000000000
  progress : r.progress ≤ 254
  noProbation : r.state ≠ .probation → r.progress = 0
  countdown : ∀ c, r.countdown = some c → r.state = .broken ∧ 1 ≤ c ∧ c ≤ 1023
  retries : r.retries ≤ 7

/-- The 15 bytes in which a needle's record is reported (R130). -/
def NeedleRecord.form (r : NeedleRecord) (b : Bar) (n : NeedleNo) : List Byte :=
  ([barNumber b, BitVec.ofNat 8 n.val,
      match r.state with
      | .ready => 0
      | .broken => 1
      | .probation => 2
      | .retired => 3
      | .threadOut => 4,
      BitVec.ofNat 8 r.misses, BitVec.ofNat 8 r.breaks] : List Byte)
    ++ bytesOf 4 r.thread
    ++ ([if r.lowWarned then 1 else 0, BitVec.ofNat 8 r.progress, if r.countdown = none then 0 else 1] : List Byte)
    ++ bytesOf 2 (r.countdown.getD 0) ++ [BitVec.ofNat 8 r.retries]

/-- A needle is READY or PROBATION. -/
def NeedleRecord.Fit (r : NeedleRecord) : Prop := r.state = .ready ∨ r.state = .probation

/-! ### Halt reasons and attention lines -/

/-- The halt reasons of a bar, summed as R108 codes them. -/
def State.haltCode (s : State) (b : Bar) : Nat :=
  let c := (s.bars.get b).control
  c.latched.select.toNat + 2 * c.latched.defect.toNat + 4 * c.latched.encoder.toNat + 8 * c.latched.link.toNat
    + 16 * s.inputs.freeze.toNat + 32 * (s.inputs.driveFault.get b).toNat + 64 * c.requested.toNat

/-- The run state, the pending run or stop and the halt reasons of a bar, as BRUN and BSTOP report them (R97). -/
def State.summaryForm (s : State) (b : Bar) : List Byte :=
  let c := (s.bars.get b).control
  [if c.run = .running then 1 else 0,
    match c.pendingRun with
    | none => 0
    | some .run => 1
    | some .stop => 2,
    BitVec.ofNat 8 (s.haltCode b)]

/-- Some source of an attention line's mask is set (R150). -/
def State.Asserts (s : State) (n : Fin 4) : Prop :=
  (∃ e : Sticky, s.masks[n].getLsbD e.number = true ∧ 0 < (s.event e).count)
    ∨ s.masks[n].getLsbD 3 = true ∧ s.inputs.freeze = true
    ∨ s.masks[n].getLsbD 4 = true ∧ (∃ b, s.inputs.driveFault.get b = true)
    ∨ s.masks[n].getLsbD 5 = true ∧ s.table.records.length ≤ s.params.roomMark

/-- A byte that tells the four attention lines, ATTNn counted as 2^n (R152). -/
def State.LinesAre (s : State) (lines : Byte) : Prop :=
  lines.toNat < 16 ∧ ∀ n : Fin 4, lines.getLsbD n.val = true ↔ s.Asserts n

/-! ### Sticky sources -/

/-- Whether a detail is of a source's form (section 8.1, R148). -/
def Sticky.hasForm : Sticky → Detail → Bool
  | .restarted, .restart _ => true
  | .linkErr, .linkError _ => true
  | .panelRetired, .tag t => t != 0
  | .cutMissed, .tag t => t != 0
  | .panelDefect, .tag t => t != 0
  | .defectStop, .bar _ => true
  | .barHalted, .bar _ => true
  | .selectFault, .bar _ => true
  | .selectLate, .bar _ => true
  | .scanLate, .bar _ => true
  | .needleBroken, .needle _ _ => true
  | .needleRetired, .needle _ _ => true
  | .probationPassed, .needle _ _ => true
  | .threadLow, .needle _ _ => true
  | .threadOut, .needle _ _ => true
  | _, _ => false

/-- A sticky source holds a count of at most 255 and a detail of its form, or none (R147, R148). -/
structure EventSlot.Wf (e : Sticky) (slot : EventSlot) : Prop where
  count : slot.count ≤ 255
  detail : ∀ d, slot.detail = some d → e.hasForm d = true

/-! ### The whole state -/

/-- Everything the rules say always holds of the part, but for the order of the heads, which holds while distances are
exact (`PanelTable.Ordered`, `State.Exact`). -/
structure State.Wf (s : State) : Prop where
  params : s.params.Wf
  store : s.store.Wf
  counted : s.store.Counted s.table.records
  table : s.table.Wf
  cutter : s.CutterWf
  bars : ∀ b, (s.bars.get b).Wf s.params b
  needles : ∀ b n, (s.needle b n).Wf s.params
  events : ∀ e, (s.event e).Wf e

end Sys2Proof.Machine
end

