-- ==== Sys2Proof/Certificates/Slice0/Obligations.lean ====
section
/-! DEFINITION. The statements about the part for the provers, in the order of OBLIGATIONS.json. Where a statement
rests on a choice of the model, its comment names the entry of the assumption log. The port after a request,
`answered`, holds for output the frame taken at the last fall of LK_SEL; that a request begins a transaction when none
is open is the model's choice (log 8). -/

open Sys2Proof Sys2Proof.Machine

/-! ### The queue, the restarts and the reset values -/

/-- Each step takes the command at the front of the queue and carries it out on the state with the queue's rest. The
queue is the model's own (log 24). -/
def Obligations.StepTakesFrontCommand : Prop :=
  ∀ (c : Instr) (rest : List Instr) (s : State),
    step { s with pending := c :: rest } = exec c { s with pending := rest }

/-- Every command is carried out, in every state: it answers a next state and leaves the queue as it was. What a
command does that cannot arrive, which is nothing, is the model's choice (log 5, 6, 7, 13). -/
def Obligations.EveryCommandIsCarriedOut : Prop :=
  ∀ (c : Instr) (s : State), ∃ t, exec c s = .next t ∧ t.pending = s.pending

/-- The values after power-on that the rules give (R13, R16, R17, R20, R21, R59, R63, R109, R112, R146, R155, R165).
The input levels, which the rules leave to the outside, are the model's (log 11). -/
def Obligations.ResetValues : Prop :=
  State.reset.w = 0
  ∧ State.reset.params.values
      = [1800, 3600, 30000, 0, 0, 0, 3, 4, -2000, -2000, -2000, 2000, 2000, 2000, 40, 40, 40, 224, 224, 224, 20, 80,
          10, 50, 2, 500000, 4, 500, 5000, 12, 1, 0]
  ∧ (∀ (g : PageNo) (i : EntryNo), State.reset.store.owner[g] = none ∧ State.reset.store.entry (g, i) = .empty)
  ∧ (∀ p : PatternId, State.reset.store.patterns[p] = ⟨.empty, none, false, 0⟩)
  ∧ (∀ n : SetNo, State.reset.store.sets[n] = ⟨0, 0⟩)
  ∧ State.reset.table = ⟨[], false⟩
  ∧ State.reset.cutter = ⟨.idle, none, none, 0⟩
  ∧ (∀ b, (State.reset.bars.get b).reference = ⟨none, .unclassified, 0⟩
      ∧ (State.reset.bars.get b).control
          = ⟨.stopped, none, ⟨false, false, false, false⟩, false, 0, none, false, none, none, none⟩
      ∧ (State.reset.bars.get b).place
          = ⟨none, false, 0, none, 0, 0, 0, .outside, false, [], 0, 0, 0, ⟨0, none⟩, .untaken⟩)
  ∧ (∀ b n, State.reset.needle b n = ⟨.threadOut, 0, 0, 0, false, 0, none, 0⟩)
  ∧ (∀ b, State.reset.scans.get b = .atRest)
  ∧ (∀ e, State.reset.event e = if e = .restarted then ⟨1, some (.restart .power)⟩ else ⟨0, none⟩)
  ∧ State.reset.masks = #v[0x1FFFC7, 0x002904, 0x1B0000, 0x000020]
  ∧ State.reset.link.slot = ⟨0, 0, .ok, []⟩

/-- POWER_ON, and PIN_RESET with the supply good, give every block its values after reset, whatever the state before,
keep the other inputs as they show, and raise RESTARTED with the cause POWER or PIN; a transaction under way is ignored
(log 10). That both act in every state and leave RESET_N high, and that PIN_RESET without the supply only moves
RESET_N, is the model's choice (log 14, 29). -/
def Obligations.RestartGivesResetValues : Prop :=
  ∀ s : State, ∃ ph : LinkPhase, (s.link.phase ≠ .idle → ph = .ignored)
    ∧ exec .powerOn s = .next { State.reset with
        pending := s.pending
        inputs := { s.inputs with supply := true, resetN := true }
        events := (Vector.replicate 18 ⟨0, none⟩).set 0 ⟨1, some (.restart .power)⟩
        link := ⟨⟨0, 0, .ok, []⟩, ⟨0, 0, .ok, []⟩, ph⟩
        choices := s.choices }
    ∧ (s.inputs.supply = true → exec .pinReset s = .next { State.reset with
        pending := s.pending
        inputs := { s.inputs with resetN := true }
        events := (Vector.replicate 18 ⟨0, none⟩).set 0 ⟨1, some (.restart .pin)⟩
        link := ⟨⟨0, 0, .ok, []⟩, ⟨0, 0, .ok, []⟩, ph⟩
        choices := s.choices })
    ∧ (s.inputs.supply = false → exec .pinReset s = .next { s with inputs := { s.inputs with resetN := true } })

/-- RESET_N_LOW ends every operation in flight. While the supply is not good or RESET_N is low, CUT_REQ and the
attention lines are low, LK_DO is not driven, and the drive links, latch chains and scan chains are idle; and no command
but a start of operation does anything but move an input level, or begin or end a transaction that the port ignores. What
State keeps while nothing can be seen is the model's choice (log 13), and so is a frame that comes with no fall of
LK_SEL before it (log 8). -/
def Obligations.ResetLowSilencesPart : Prop :=
  (∀ s : State, s.inputs.operates = true →
    ∃ t, exec .resetNLow s = .next t
      ∧ t = { s with
          inputs := { s.inputs with resetN := false }
          bars := t.bars
          scans := ⟨.atRest, .atRest, .atRest⟩
          table := t.table
          cutter := { s.cutter with state := .idle, pendingHead := none }
          link := t.link
          messages := []
          strokesDue := ⟨0, 0, 0⟩ }
      ∧ (∀ b, t.bars.get b = { s.bars.get b with
          control := { (s.bars.get b).control with transfer := none, driveCommand := none } })
      ∧ t.table = { s.table with records := s.table.records.map (fun r => { r with cutPending := false }) }
      ∧ t.link.slot = ⟨0, 0, .ok, []⟩ ∧ (s.link.phase ≠ .idle → t.link.phase = .ignored))
  ∧ ∀ s : State, (s.inputs.supply = false ∨ s.inputs.resetN = false) →
      (s.cutRequest = false ∧ (∀ n, s.attentionLine n = false) ∧ (∀ n, s.lineOut n = none)
        ∧ ∀ b, s.driveOut b = none ∧ (∀ n, s.driveBit b n = none) ∧ s.selectOut b = none ∧ s.scanOut b = false)
      ∧ (∀ c, c ≠ .powerOn → (c = .pinReset → s.inputs.supply = false) →
          ∃ x ph, exec c s = .next { s with inputs := x, link := { s.link with phase := ph } }
            ∧ x.supply = s.inputs.supply ∧ (x.supply = false ∨ x.resetN = false)
            ∧ (ph = s.link.phase ∨ ph = .ignored ∨ ph = .idle))
      ∧ (∀ b level, exec (.freeze level) s = .next { s with inputs := { s.inputs with freeze := level } }
        ∧ exec (.driveFault b level) s
          = .next { s with inputs := { s.inputs with driveFault := s.inputs.driveFault.set b level } })
      ∧ exec .linkTransactionStart s = .next { s with link := { s.link with phase := .ignored } }
      ∧ (∀ kind tag payload, exec (.unknown kind tag payload) s
          = .next { s with link := { s.link with phase := .ignored } })
      ∧ ∀ bits, exec (.frameError bits) s = .next { s with link := { s.link with phase := .idle } }

/-! ### The web tracker -/

/-- A pair one step on or back from the stored pair moves W by one count and becomes the stored pair; one that differs
in both channels leaves W, becomes the stored pair, raises ENCODER_FAULT and latches ENCODER on every bar; one equal
to the stored pair is no arrival. -/
def Obligations.CountArrivals : Prop :=
  ∀ s : State, s.inputs.operates = true →
    let a := s.inputs.webA
    let b := s.inputs.webB
    let paired (x y : Bool) : Inputs := { s.inputs with webA := x, webB := y }
    let moves (x y : Bool) (w : Word) : Prop := ∃ t, exec (.countArrival x y) s = .next t
      ∧ t = { s with
          w := w
          inputs := paired x y
          table := t.table
          cutter := t.cutter
          store := t.store
          events := t.events }
    moves (!b) a (s.w + 1)
    ∧ moves b (!a) (s.w - 1)
    ∧ exec (.countArrival (!a) (!b)) s = .next { s with
        inputs := paired (!a) (!b)
        events := s.events.set 2 ⟨min ((s.event .encoderFault).count + 1) 255, (s.event .encoderFault).detail⟩
        bars := s.bars.map (fun c =>
          { c with control := { c.control with latched := { c.control.latched with encoder := true } } }) }
    ∧ exec (.countArrival a b) s = .next s

/-- The phase of a record, read off the true positions of the web and of its head when they lie within 2^30 of each
other: WAITING before the head reaches bar A, IN_WORK until the end passes bar C, CLEARED until the end reaches the
cutter, DUE from then on. -/
def Obligations.PhaseFollowsWeb : Prop :=
  ∀ (s : State) (r : PanelRecord) (w h : Int), s.params.Wf → r.Wf →
    s.w = BitVec.ofInt 32 w → r.head = BitVec.ofInt 32 h → -1073741824 ≤ w - h → w - h ≤ 1073741824 →
    (s.phase r = .waiting ↔ w < h)
    ∧ (s.phase r = .inWork ↔ h ≤ w ∧ w < h + r.length + s.params.offC)
    ∧ (s.phase r = .cleared ↔ h + r.length + s.params.offC ≤ w ∧ w < h + r.length + s.params.offK)
    ∧ (s.phase r = .due ↔ h + r.length + s.params.offK ≤ w)

/-- POSREAD reports W, the stored pair and the reference of each bar in 35 bytes; PNLAST the retirement number, the
cutter state, the pending tag and the last-retired slot in 46 bytes; neither changes anything, and both answer a
payload with LENGTH. -/
def Obligations.PositionAndCutReports : Prop :=
  (∀ (s : State) (tag : Byte), s.takesFrames →
    (∃ bytes, exec (.posread tag []) s = .next (s.answered 0x56 tag .ok bytes)
      ∧ bytes.length = 35
      ∧ bytes = bytesOf 4 s.w.toNat
          ++ ([(if s.inputs.webA then 2 else 0) + (if s.inputs.webB then 1 else 0)] : List Byte)
          ++ Bar.all.flatMap (fun b =>
              let r := (s.bars.get b).reference
              ([if r.last.isSome then 1 else 0] : List Byte) ++ bytesOf 4 (r.last.getD 0).toNat
                ++ [(match r.strokeClass with
                    | .unclassified => 0
                    | .reverse => 1
                    | .stall => 2
                    | .normal => 3
                    | .long => 4 : Byte)]
                ++ bytesOf 4 (BitVec.ofInt 32 r.advance).toNat))
    ∧ ∀ p, p ≠ [] → exec (.posread tag p) s = .next (s.answered 0x56 tag .length []))
  ∧ ∀ (s : State) (tag : Byte), s.takesFrames →
      (∃ rest, exec (.pnlast tag []) s = .next (s.answered 0x23 tag .ok
          (([if s.cutter.lastRetired.isSome then 1 else 0] : List Byte) ++ bytesOf 2 s.cutter.retirements.toNat
            ++ ([(match s.cutter.state with
                | .idle => 0
                | .requesting => 1
                | .rearming => 2 : Byte)] : List Byte)
            ++ bytesOf 2 (match s.cutter.pendingHead with
                | none => 0
                | some h => ((s.table.records.find? (fun r => r.head = h)).map (fun r => r.tag.toNat)).getD 0)
            ++ rest))
        ∧ rest.length = 40
        ∧ (s.cutter.lastRetired = none →
            rest = List.replicate 35 0 ++ ([0xFF, 0, 0, 0, 0] : List Byte))
        ∧ (∀ m, s.cutter.lastRetired = some m → rest =
            bytesOf 2 m.tag.toNat ++ bytesOf 4 m.head.toNat ++ bytesOf 4 m.length
              ++ [(match m.outcome with
                  | .cut => 0
                  | .window => 1
                  | .forced => 2 : Byte)]
              ++ bytesOf 4 m.w.toNat
              ++ ([if m.aborted then 1 else 0, if m.policy = .stop then 1 else 0] : List Byte)
              ++ Bar.all.flatMap (fun b =>
                  [patternCode (m.bars.get b).pattern, (m.bars.get b).status.code]
                    ++ bytesOf 2 (m.bars.get b).defects.toNat)
              ++ bytesOf 2 m.defects.toNat ++ bytesOf 2 m.notices
              ++ (match m.first with
                | some d => ([1, BitVec.ofNat 8 d.kind.number, barCode d.bar] : List Byte)
                    ++ bytesOf 4 (BitVec.ofInt 32 d.y).toNat
                | none => [0, 0, 0xFF, 0, 0, 0, 0])))
      ∧ ∀ p, p ≠ [] → exec (.pnlast tag p) s = .next (s.answered 0x23 tag .length [])

/-! ### The cutter sequence -/

/-- At the W arrival in IDLE at which the record at the front is DUE its cut becomes pending: CUT_REQ is asserted, the
pending head is its head, and the status of each bar is settled, NOT_REACHED to SKIPPED with the mark BAR_SKIPPED and
SEWING to SHORT with the mark BAR_SHORT, each mark counted as one fold at that bar's Y. PANEL_DEFECT is raised when the
settlement makes the first defect present, STARVE by the rule of the arrival, and nothing else. -/
def Obligations.CutBecomesPending : Prop :=
  ∀ (s : State) (x y : Bool) (r : PanelRecord) (rest : List PanelRecord), s.inputs.operates = true →
    (s.countStep x y = .forward ∨ s.countStep x y = .backward) → s.cutter.state = .idle →
    s.table.records = r :: rest → (s.takePair x y).phase r = .due →
    let u := s.takePair x y
    ∃ t q, exec (.countArrival x y) s = .next t
      ∧ t.cutter = { s.cutter with state := .requesting, pendingHead := some r.head }
      ∧ t.cutRequest = true
      ∧ t.table.records = q :: rest
      ∧ r.Settles q (fun b => webDist (u.linePosition b) r.head)
      ∧ t = { u with table := t.table, cutter := t.cutter, events := t.events }
      ∧ s.StarvesBy t
      ∧ (r.SettlesFirst → t.event .panelDefect = raised (s.event .panelDefect) (.tag r.tag))
      ∧ (¬ r.SettlesFirst → t.event .panelDefect = s.event .panelDefect)
      ∧ ∀ e, e ≠ .panelDefect → e ≠ .starve → t.event e = s.event e

/-- A rising edge of CUT_DONE in REQUESTING retires the record at the front with the outcome CUT: its summary is
written, the retirement number rises, its references are released, PANEL_RETIRED is raised with its tag, and CUT_REQ
is released. An edge in IDLE or REARMING raises CUT_STRAY alone, a high level is no edge, and the falls of CUT_DONE
and STROKE only move the level. -/
def Obligations.CutDoneEdges : Prop :=
  ∀ s : State, s.inputs.operates = true →
    (∀ r rest, s.inputs.cutDone = false → s.cutter.state = .requesting → s.table.records = r :: rest →
      ∃ starving : Bool, (starving = true ↔ Starves s.params s.w rest)
        ∧ ∃ t, exec .cutDone s = .next t
        ∧ t = { s with
            inputs := { s.inputs with cutDone := true }
            cutter := {
              state := .idle
              pendingHead := none
              retirements := s.cutter.retirements + 1
              lastRetired := some {
                tag := r.tag
                head := r.head
                length := r.length
                policy := r.policy
                aborted := r.aborted
                bars := r.bars.map (fun b => { pattern := b.pattern, status := b.status, defects := b.defects })
                defects := r.defects
                notices := r.notices
                first := r.first
                outcome := .cut
                w := s.w } }
            table := ⟨rest, starving⟩
            store := s.store.releaseRecord r
            events := s.events.set 4 ⟨min ((s.event .panelRetired).count + 1) 255, some (.tag r.tag)⟩ }
        ∧ t.cutRequest = false)
    ∧ (s.inputs.cutDone = false → s.cutter.state ≠ .requesting →
      exec .cutDone s = .next { s with
        inputs := { s.inputs with cutDone := true }
        events := s.events.set 6 ⟨min ((s.event .cutStray).count + 1) 255, (s.event .cutStray).detail⟩ })
    ∧ (s.inputs.cutDone = true → exec .cutDone s = .next s)
    ∧ exec .cutDoneFall s = .next { s with inputs := { s.inputs with cutDone := false } }
    ∧ exec .strokeFall s = .next { s with inputs := { s.inputs with stroke := false } }

/-- At the W arrival at which the end of the pending record has run CUT_WINDOW past the cutter line, and the record
after it is not DUE, CUT_MISSED is folded into it and raised, and it is retired with the outcome WINDOW; PANEL_DEFECT is
raised when that is its first fold, and STARVE by the rule of the arrival against the state before it (log 15).
CUT_WINDOW_EXPIRY is that arrival; at any other pair it changes nothing, which is the model's reading of the command
(log 6). -/
def Obligations.WindowExpiryRetires : Prop :=
  ∀ (s : State) (x y : Bool), s.inputs.operates = true →
    let moves : Prop := s.countStep x y = .forward ∨ s.countStep x y = .backward
    let u := s.takePair x y
    let end_ (r : PanelRecord) : Int :=
      webDist (u.w - BitVec.ofNat 32 s.params.offK - BitVec.ofNat 32 r.length) r.head
    (∀ r rest, moves → s.cutter.state ≠ .idle → s.table.records = r :: rest →
      (∀ q ∈ rest.head?, u.phase q ≠ .due) → (s.params.cutWindow : Int) ≤ end_ r →
      ∃ t, exec (.cutWindowExpiry x y) s = .next t ∧ exec (.countArrival x y) s = .next t
        ∧ t = { u with table := t.table, cutter := t.cutter, store := s.store.releaseRecord r, events := t.events }
        ∧ t.cutter = {
            state := .idle
            pendingHead := none
            retirements := s.cutter.retirements + 1
            lastRetired := some {
              tag := r.tag
              head := r.head
              length := r.length
              policy := r.policy
              aborted := r.aborted
              bars := r.bars.map (fun b => { pattern := b.pattern, status := b.status, defects := b.defects })
              defects := r.defects ||| DefectKind.cutMissed.bit
              notices := min (r.notices + 1) 65535
              first := r.first.or (some ⟨.cutMissed, none, webDist (u.w - BitVec.ofNat 32 s.params.offK) r.head⟩)
              outcome := .window
              w := u.w } }
        ∧ t.table.records = rest ∧ s.StarvesBy t
        ∧ t.event .cutMissed = raised (s.event .cutMissed) (.tag r.tag)
        ∧ t.event .panelRetired = raised (s.event .panelRetired) (.tag r.tag)
        ∧ (r.first = none → t.event .panelDefect = raised (s.event .panelDefect) (.tag r.tag))
        ∧ (r.first ≠ none → t.event .panelDefect = s.event .panelDefect)
        ∧ (∀ e, e ≠ .cutMissed → e ≠ .panelRetired → e ≠ .panelDefect → e ≠ .starve → t.event e = s.event e)
        ∧ t.cutRequest = false)
    ∧ (¬ moves ∨ s.cutter.state = .idle ∨ s.table.records = [] → exec (.cutWindowExpiry x y) s = .next s)
    ∧ ∀ r rest, s.table.records = r :: rest → (∃ q ∈ rest.head?, u.phase q = .due) ∨ end_ r < s.params.cutWindow →
        exec (.cutWindowExpiry x y) s = .next s

/-- When the record after the pending one is DUE at an arrival, the pending record is retired as FORCED with CUT_MISSED
folded in and raised, and the next becomes pending in REARMING with its bar statuses settled and CUT_REQ low; each of the
two that so gets its first defect raises PANEL_DEFECT, the retired one first. An arrival in REARMING or REQUESTING at
which nothing is retired asserts CUT_REQ and leaves the table. STARVE is judged against the state before the arrival
(log 15). -/
def Obligations.NextPanelForcesCut : Prop :=
  ∀ (s : State) (x y : Bool) (r : PanelRecord) (rest : List PanelRecord), s.inputs.operates = true →
    (s.countStep x y = .forward ∨ s.countStep x y = .backward) → s.cutter.state ≠ .idle →
    s.table.records = r :: rest →
    let u := s.takePair x y
    (∀ q more, rest = q :: more → u.phase q = .due →
      ∃ t q', exec (.countArrival x y) s = .next t
        ∧ t = { u with table := t.table, cutter := t.cutter, store := s.store.releaseRecord r, events := t.events }
        ∧ t.cutter = {
            state := .rearming
            pendingHead := some q.head
            retirements := s.cutter.retirements + 1
            lastRetired := some {
              tag := r.tag
              head := r.head
              length := r.length
              policy := r.policy
              aborted := r.aborted
              bars := r.bars.map (fun b => { pattern := b.pattern, status := b.status, defects := b.defects })
              defects := r.defects ||| DefectKind.cutMissed.bit
              notices := min (r.notices + 1) 65535
              first := r.first.or (some ⟨.cutMissed, none, webDist (u.w - BitVec.ofNat 32 s.params.offK) r.head⟩)
              outcome := .forced
              w := u.w } }
        ∧ t.table.records = q' :: more ∧ q.Settles q' (fun b => webDist (u.linePosition b) q.head)
        ∧ t.cutRequest = false ∧ s.StarvesBy t
        ∧ t.event .cutMissed = raised (s.event .cutMissed) (.tag r.tag)
        ∧ t.event .panelRetired = raised (s.event .panelRetired) (.tag r.tag)
        ∧ (∃ missed, (r.first = none → missed = raised (s.event .panelDefect) (.tag r.tag))
          ∧ (r.first ≠ none → missed = s.event .panelDefect)
          ∧ (q.SettlesFirst → t.event .panelDefect = raised missed (.tag q.tag))
          ∧ (¬ q.SettlesFirst → t.event .panelDefect = missed))
        ∧ ∀ e, e ≠ .cutMissed → e ≠ .panelRetired → e ≠ .panelDefect → e ≠ .starve → t.event e = s.event e)
    ∧ ((∀ q ∈ rest.head?, u.phase q ≠ .due) →
        webDist (u.w - BitVec.ofNat 32 s.params.offK - BitVec.ofNat 32 r.length) r.head < s.params.cutWindow →
        ∃ t, exec (.countArrival x y) s = .next t
          ∧ t = { u with table := t.table, cutter := t.cutter, events := t.events }
          ∧ t.cutter = { s.cutter with state := .requesting } ∧ t.cutRequest = true
          ∧ t.table.records = s.table.records ∧ s.StarvesBy t
          ∧ ∀ e, e ≠ .starve → t.event e = s.event e)

/-! ### The panel table -/

/-- An accepted PNADMIT: the record with the values of the request joins the back of the table, its references are
added to the store, the stored starvation state is re-evaluated without an event, and the response carries the head
that was fixed and the live count. -/
def Obligations.AdmissionAppendsRecord : Prop :=
  ∀ (s : State) (tag : Byte) (number value length margin : Nat) (after stop : Bool)
    (patterns : PerBar (Option PatternId)) (origins : PerBar Int) (widths : PerBar (Option SetNo)),
    s.takesFrames → s.table.records.length < 16 → (∀ q ∈ s.table.records, q.tag.toNat ≠ number) →
    1 ≤ number → number ≤ 65535 → value ≤ (if after then 16777215 else 4294967295) →
    1000 ≤ length → length ≤ 1000000 → margin ≤ 2000 →
    (∀ b, -4000 ≤ origins.get b ∧ origins.get b ≤ 4000) →
    (∀ b p, patterns.get b = some p → s.store.patterns[p].state = .closed) →
    let head : Word := match after, s.table.records.getLast? with
      | false, _ => BitVec.ofNat 32 value
      | true, none => s.w + BitVec.ofNat 32 value
      | true, some q => q.head + BitVec.ofNat 32 q.length + BitVec.ofNat 32 value
    0 ≤ webDist head s.w → webDist head s.w < 16777216 →
    (∀ q, s.table.records.getLast? = some q → 0 ≤ webDist head (q.head + BitVec.ofNat 32 q.length)) →
    let r : PanelRecord := {
      tag := BitVec.ofNat 16 number
      head := head
      length := length
      tailMargin := margin
      policy := if stop then .stop else .mark
      bars :=
        let bar (b : Bar) : PanelBar := {
          pattern := patterns.get b
          origin := origins.get b
          widthSet := widths.get b
          status := if patterns.get b = none then .absent else .notReached
          defects := 0 }
        ⟨bar .A, bar .B, bar .C⟩
      defects := 0
      notices := 0
      first := none
      aborted := false
      cutPending := false }
    ∃ starving : Bool, (starving = true ↔ Starves s.params s.w (s.table.records ++ [r]))
      ∧ exec (.pnadmit tag (bytesOf 2 number ++ ([if after then 1 else 0] : List Byte) ++ bytesOf 4 value
            ++ bytesOf 4 length ++ bytesOf 2 margin ++ ([if stop then 1 else 0] : List Byte)
            ++ Bar.all.flatMap (fun b => [patternCode (patterns.get b)]
              ++ bytesOf 2 (BitVec.ofInt 16 (origins.get b)).toNat ++ [widthCode (widths.get b)]))) s
        = .next { s with
            table := ⟨s.table.records ++ [r], starving⟩
            store := s.store.addRecord r
            link := s.link.answered 0x20 tag .ok
              (bytesOf 4 head.toNat ++ [BitVec.ofNat 8 (s.table.records.length + 1)]) }

/-- A PNADMIT is answered by the first check that fails, in the order LENGTH, FULL, DUP_TAG, RANGE, STATE,
HEAD_PASSED, TOO_FAR, ORDER, and a refusal changes nothing. -/
def Obligations.AdmissionRefusals : Prop :=
  ∀ (s : State) (tag : Byte) (p : List Byte), s.takesFrames →
    let refused (st : Status) : Prop := exec (.pnadmit tag p) s = .next (s.answered 0x20 tag st [])
    let a := readAdmission p
    let bar (b : Bar) := a.bars.get b
    let inRange : Prop := 1 ≤ a.tag ∧ a.mode ≤ 1 ∧ (a.mode = 1 → a.value ≤ 16777215) ∧ 1000 ≤ a.length
      ∧ a.length ≤ 1000000 ∧ a.tailMargin ≤ 2000 ∧ a.policy ≤ 1
      ∧ ∀ b, (bar b).pattern ≤ 32 ∧ -4000 ≤ (bar b).origin ∧ (bar b).origin ≤ 4000
        ∧ ((bar b).widthSet ≤ 63 ∨ (bar b).widthSet = 255)
    let closed : Prop := ∀ b q, patternOf? (bar b).pattern = some q → s.store.patterns[q].state = .closed
    let head := s.admittedHead a
    (p.length ≠ 26 → refused .length)
    ∧ (p.length = 26 → 16 ≤ s.table.records.length → refused .full)
    ∧ (p.length = 26 → s.table.records.length < 16 →
        ((∃ q ∈ s.table.records, q.tag.toNat = a.tag) → refused .dupTag)
        ∧ ((∀ q ∈ s.table.records, q.tag.toNat ≠ a.tag) →
          (¬ inRange → refused .range)
          ∧ (inRange → ¬ closed → refused .state)
          ∧ (inRange → closed →
            (webDist head s.w < 0 → refused .headPassed)
            ∧ (16777216 ≤ webDist head s.w → refused .tooFar)
            ∧ (0 ≤ webDist head s.w → webDist head s.w < 16777216 →
                (∃ q, s.table.records.getLast? = some q
                  ∧ webDist head (q.head + BitVec.ofNat 32 q.length) < 0) →
                refused .order))))

/-- PNABORT takes a WAITING, untouched record with no cut pending out of the table; marks any other record that is not
aborted, with the mark ABORTED folded in; leaves one already aborted; and answers NO_SUCH or LENGTH where no live
record is named. -/
def Obligations.AbortOutcomes : Prop :=
  ∀ (s : State) (tag : Byte), s.takesFrames →
    (∀ pre r post, s.Holds (·.tag) pre r post → (∀ q ∈ pre, q.head ≠ r.head) → r.tag ≠ 0 →
      let asked := exec (.pnabort tag (bytesOf 2 r.tag.toNat)) s
      let removable : Prop := s.phase r = .waiting ∧ s.Untouched r ∧ r.cutPending = false
      (removable → ∃ starving : Bool, (starving = true ↔ Starves s.params s.w (pre ++ post))
        ∧ asked = .next { s with
            table := ⟨pre ++ post, starving⟩
            store := s.store.releaseRecord r
            link := s.link.answered 0x21 tag .ok [0, 0] })
      ∧ (¬ removable → r.aborted = false → asked = .next { s with
            table := { s.table with records := pre ++ { r with
              aborted := true
              defects := r.defects ||| DefectKind.aborted.bit
              notices := min (r.notices + 1) 65535
              first := r.first.or (some ⟨.aborted, none, webDist s.w r.head⟩) } :: post }
            events := if r.first = none then
                s.events.set 7 ⟨min ((s.event .panelDefect).count + 1) 255, some (.tag r.tag)⟩
              else s.events
            link := s.link.answered 0x21 tag .ok [1, (s.phase r).code] })
      ∧ (¬ removable → r.aborted = true → asked = .next (s.answered 0x21 tag .ok [2, (s.phase r).code])))
    ∧ (∀ n, n ≤ 65535 → (n = 0 ∨ ∀ q ∈ s.table.records, q.tag.toNat ≠ n) →
        exec (.pnabort tag (bytesOf 2 n)) s = .next (s.answered 0x21 tag .noSuch []))
    ∧ ∀ p, p.length ≠ 2 → exec (.pnabort tag p) s = .next (s.answered 0x21 tag .length [])

/-- A bar status message gives the live record with its head the new status for the bar, unless the record's status
for the bar is NONE; without a live record it is dropped. The copy in flight is used up, and a message not in flight is
taken all the same (log 3). -/
def Obligations.StatusMessageTaken : Prop :=
  ∀ (s : State) (m : StatusMessage), s.inputs.operates = true →
    (∀ pre r post, s.Holds (·.head) pre r post → r.head = m.head →
      exec (.barStatusMessage m) s = .next { s with
        messages := s.messages.erase (.status m)
        table := { s.table with records := pre ++ { r with bars := r.bars.set m.bar { r.bars.get m.bar with
          status := if (r.bars.get m.bar).status = .absent then .absent else match m.news with
            | .sewing => .sewing
            | .done => .done
            | .short => .short } } :: post } })
    ∧ ((∀ q ∈ s.table.records, q.head ≠ m.head) →
        exec (.barStatusMessage m) s = .next { s with messages := s.messages.erase (.status m) })

/-- A defect notice is folded into the live record with its head, and PANEL_DEFECT is raised at the record's first
fold; under the policy STOP a notice with BREAK or THREAD_OUT, whatever other kinds it holds (log 27), is answered STOP:
DEFECT_STOP is raised and DEFECT latched on the bar. Without a live record the notice is dropped. The copy in flight is
used up, and a notice not in flight is taken all the same (log 3). -/
def Obligations.DefectNoticeFolded : Prop :=
  ∀ (s : State) (n : DefectNotice), s.inputs.operates = true →
    (∀ pre r post k, s.Holds (·.head) pre r post → r.head = n.head → LowestKind n.kinds k →
      let stops : Prop := r.policy = .stop
        ∧ (n.kinds.getLsbD DefectKind.needleBreak.number = true
          ∨ n.kinds.getLsbD DefectKind.threadOut.number = true)
      let before := (s.bars.get n.bar).control
      ∃ t, exec (.defectNotice n) s = .next t
        ∧ t = { s with table := t.table, bars := t.bars, events := t.events, messages := t.messages }
        ∧ t.messages = s.messages.erase (.notice n)
        ∧ t.table = { s.table with records := pre ++ { r with
            defects := r.defects ||| n.kinds
            bars := r.bars.set n.bar { r.bars.get n.bar with
              defects := (r.bars.get n.bar).defects ||| n.kinds }
            notices := min (r.notices + 1) 65535
            first := r.first.or (some ⟨k, some n.bar, n.y⟩) } :: post }
        ∧ (∀ b, b ≠ n.bar → t.bars.get b = s.bars.get b)
        ∧ (stops → t.bars.get n.bar = { s.bars.get n.bar with
            control := { before with latched := { before.latched with defect := true } } })
        ∧ (¬ stops → t.bars.get n.bar = s.bars.get n.bar)
        ∧ (r.first = none → t.event .panelDefect
            = ⟨min ((s.event .panelDefect).count + 1) 255, some (.tag r.tag)⟩)
        ∧ (r.first ≠ none → t.event .panelDefect = s.event .panelDefect)
        ∧ (stops → t.event .defectStop = ⟨min ((s.event .defectStop).count + 1) 255, some (.bar n.bar)⟩)
        ∧ (¬ stops → t.event .defectStop = s.event .defectStop)
        ∧ ∀ e, e ≠ .panelDefect → e ≠ .defectStop → t.event e = s.event e)
    ∧ ((∀ q ∈ s.table.records, q.head ≠ n.head) →
        exec (.defectNotice n) s = .next { s with messages := s.messages.erase (.notice n) })

/-- At an arrival at which no cut is pending and none becomes due, nothing changes but W, the stored pair and the
stored starvation state, which takes the value of the condition; STARVE is raised when that is a change to
starving. -/
def Obligations.ArrivalJudgesStarvation : Prop :=
  ∀ (s : State) (x y : Bool), s.inputs.operates = true →
    (s.countStep x y = .forward ∨ s.countStep x y = .backward) → s.cutter.state = .idle →
    let w := if s.countStep x y = .forward then s.w + 1 else s.w - 1
    (∀ r ∈ s.table.records.head?,
      webDist (w - BitVec.ofNat 32 s.params.offK) r.head < r.length ∨ webDist w r.head < 0
        ∨ webDist (w - BitVec.ofNat 32 s.params.offC) r.head < r.length) →
    ∃ starving : Bool, (starving = true ↔ Starves s.params w s.table.records)
      ∧ exec (.countArrival x y) s = .next { s with
          w := w
          inputs := { s.inputs with webA := x, webB := y }
          table := { s.table with starving := starving }
          events := if starving = true ∧ s.table.starving = false then
              s.events.set 3 ⟨min ((s.event .starve).count + 1) 255, (s.event .starve).detail⟩
            else s.events }

/-- PNINFO reports one live record in 49 bytes, PNINFO with tag 0 the whole table in 2 bytes and 9 for each record;
neither changes anything; a tag no record carries is answered NO_SUCH. The phases, the bar statuses, the defect kinds, an
absent pattern, an absent width set, the bars and an absent bar have the codes of the manual. -/
def Obligations.PanelReports : Prop :=
  [Phase.waiting, .inWork, .cleared, .due].map Phase.code = [0, 1, 2, 3]
  ∧ [BarStatus.absent, .notReached, .sewing, .done, .short, .skipped].map BarStatus.code = [0, 1, 2, 3, 4, 5]
  ∧ [DefectKind.longStitch, .travelClamp, .lag, .segOverrun, .motifDepth, .tieShort, .selectLate, .needleBreak,
      .threadOut, .barShort, .barSkipped, .rehearsed, .cutMissed, .aborted].map DefectKind.number
    = [0, 1, 2, 3, 4, 5, 6, 7, 8, 9, 10, 11, 12, 13]
  ∧ (∀ (k : DefectKind) (n : Nat), k.bit.getLsbD n = true ↔ n = k.number)
  ∧ patternCode none = 0 ∧ (∀ p : PatternId, patternCode (some p) = BitVec.ofNat 8 (p.val + 1))
  ∧ widthCode none = 0xFF ∧ (∀ n : SetNo, widthCode (some n) = BitVec.ofNat 8 n.val)
  ∧ [Bar.A, .B, .C].map barNumber = [0, 1, 2] ∧ barCode none = 0xFF ∧ (∀ b : Bar, barCode (some b) = barNumber b)
  ∧ ∀ (s : State) (tag : Byte), s.takesFrames →
    (∀ pre r post, s.Holds (·.tag) pre r post → r.tag ≠ 0 →
      exec (.pninfo tag (bytesOf 2 r.tag.toNat)) s = .next (s.answered 0x22 tag .ok
        (bytesOf 2 r.tag.toNat ++ [BitVec.ofNat 8 pre.length] ++ bytesOf 4 r.head.toNat ++ bytesOf 4 r.length
          ++ bytesOf 2 r.tailMargin
          ++ ([if r.policy = .stop then 1 else 0, (s.phase r).code, if r.aborted then 1 else 0,
              if r.cutPending then 1 else 0] : List Byte)
          ++ Bar.all.flatMap (fun b =>
              let p := r.bars.get b
              ([patternCode p.pattern] : List Byte) ++ bytesOf 2 (BitVec.ofInt 16 p.origin).toNat
                ++ [widthCode p.widthSet, p.status.code] ++ bytesOf 2 p.defects.toNat)
          ++ bytesOf 2 r.defects.toNat ++ bytesOf 2 r.notices
          ++ (match r.first with
            | some d => ([1, BitVec.ofNat 8 d.kind.number, barCode d.bar] : List Byte)
                ++ bytesOf 4 (BitVec.ofInt 32 d.y).toNat
            | none => [0, 0, 0xFF, 0, 0, 0, 0]))))
    ∧ exec (.pninfoTable tag) s = .next (s.answered 0x22 tag .ok
        (([BitVec.ofNat 8 s.table.records.length, if s.table.starving then 1 else 0] : List Byte)
          ++ s.table.records.flatMap (fun r => bytesOf 2 r.tag.toNat ++ bytesOf 4 r.head.toNat
            ++ ([(s.phase r).code, if r.aborted then 1 else 0, if r.cutPending then 1 else 0] : List Byte))))
    ∧ (∀ n, 1 ≤ n → n ≤ 65535 → (∀ q ∈ s.table.records, q.tag.toNat ≠ n) →
        exec (.pninfo tag (bytesOf 2 n)) s = .next (s.answered 0x22 tag .noSuch []))
    ∧ ∀ p, p.length ≠ 2 → exec (.pninfo tag p) s = .next (s.answered 0x22 tag .length [])

/-- The add message counts each bar of a record on the pattern and on the width set 1..63 it names, the release
message takes the same counts back; set 0 carries none, and nothing else of the store changes. The subtraction is that
of natural numbers: a count below what is released stops at 0, which no run meets (log 25). -/
def Obligations.RecordReferencesCounted : Prop :=
  ∀ (st : Store) (r : PanelRecord),
    let uses (p : PatternId) := Bar.all.countP (fun b => (r.bars.get b).pattern = some p)
    let widths (n : SetNo) := if n = 0 then 0 else Bar.all.countP (fun b => (r.bars.get b).widthSet = some n)
    (∀ p : PatternId, (st.addRecord r).patterns[p]
        = { st.patterns[p] with useCount := st.patterns[p].useCount + uses p })
    ∧ (∀ p : PatternId, (st.releaseRecord r).patterns[p]
        = { st.patterns[p] with useCount := st.patterns[p].useCount - uses p })
    ∧ (∀ n : SetNo, (st.addRecord r).sets[n]
        = { st.sets[n] with refCount := st.sets[n].refCount + widths n })
    ∧ (∀ n : SetNo, (st.releaseRecord r).sets[n]
        = { st.sets[n] with refCount := st.sets[n].refCount - widths n })
    ∧ (st.addRecord r).entries = st.entries ∧ (st.addRecord r).owner = st.owner
    ∧ (st.releaseRecord r).entries = st.entries ∧ (st.releaseRecord r).owner = st.owner

/-! ### Needle sets and the pattern store -/

/-- NSWRITE makes the members of a set 1..63 exactly the numbers given, and is refused with LENGTH, RANGE or IN_USE in
that order. -/
def Obligations.NeedleSetWritten : Prop :=
  ∀ (s : State) (tag : Byte), s.takesFrames →
    let asked (p : List Byte) := exec (.nswrite tag p) s
    (∀ (n : SetNo) (numbers : List Byte), n ≠ 0 → numbers.length ≤ 40 → (∀ b ∈ numbers, b.toNat ≤ 39) →
      let p := [BitVec.ofNat 8 n.val, BitVec.ofNat 8 numbers.length] ++ numbers
      (s.store.sets[n].refCount = 0 →
        ∃ set : NeedleSet, (∀ k, set.getLsbD k = true ↔ ∃ b ∈ numbers, b.toNat = k)
          ∧ asked p = .next { s with
              store := { s.store with sets := s.store.sets.set n ⟨set, 0⟩ }
              link := s.link.answered 0x18 tag .ok [] })
      ∧ (0 < s.store.sets[n].refCount → asked p = .next (s.answered 0x18 tag .inUse [])))
    ∧ (∀ (i m : Byte) (numbers : List Byte), numbers.length = m.toNat →
        (i = 0 ∨ 63 < i.toNat ∨ 40 < m.toNat ∨ ∃ b ∈ numbers, 39 < b.toNat) →
        asked ([i, m] ++ numbers) = .next (s.answered 0x18 tag .range []))
    ∧ ∀ p : List Byte, (p.length < 2 ∨ p.length ≠ 2 + (p.getD 1 0).toNat) →
        asked p = .next (s.answered 0x18 tag .length [])

/-- NSINFO reports a needle set's reference count and its members in ascending order, PTINFO a pattern record in 8
bytes, PTREAD a run of entries of one page, index 63 followed by 0; none changes anything. -/
def Obligations.StoreReported : Prop :=
  ∀ (s : State) (tag : Byte), s.takesFrames →
    ((∀ n : SetNo, ∃ ms : List Nat, ms.Pairwise (· < ·)
      ∧ (∀ k, k ∈ ms ↔ s.store.sets[n].members.getLsbD k = true)
      ∧ exec (.nsinfo tag [BitVec.ofNat 8 n.val]) s = .next (s.answered 0x19 tag .ok
          ([BitVec.ofNat 8 n.val] ++ bytesOf 2 s.store.sets[n].refCount ++ [BitVec.ofNat 8 ms.length]
            ++ ms.map (BitVec.ofNat 8))))
    ∧ (∀ i : Byte, 63 < i.toNat → exec (.nsinfo tag [i]) s = .next (s.answered 0x19 tag .range []))
    ∧ ∀ p, p.length ≠ 1 → exec (.nsinfo tag p) s = .next (s.answered 0x19 tag .length []))
    ∧ ((∀ p : PatternId, ∃ owned : BitVec 16, (∀ g : PageNo, owned.getLsbD g.val = true ↔ s.store.owner[g] = some p)
      ∧ exec (.ptinfo tag [BitVec.ofNat 8 (p.val + 1)]) s = .next (s.answered 0x15 tag .ok
          (([BitVec.ofNat 8 (p.val + 1),
              match s.store.patterns[p].state with
              | .empty => 0
              | .opened => 1
              | .closed => 2,
              match s.store.patterns[p].home with
              | some g => BitVec.ofNat 8 g.val
              | none => 0xFF] : List Byte)
            ++ bytesOf 2 owned.toNat
            ++ ([if s.store.patterns[p].endless then 1 else 0] : List Byte)
            ++ bytesOf 2 s.store.patterns[p].useCount)))
    ∧ (∀ i : Byte, 32 < i.toNat → exec (.ptinfo tag [i]) s = .next (s.answered 0x15 tag .range []))
    ∧ ∀ p, p.length ≠ 1 → exec (.ptinfo tag p) s = .next (s.answered 0x15 tag .length []))
    ∧ ((∀ (g : PageNo) (i : EntryNo) (c : Nat), 1 ≤ c → c ≤ 29 →
      exec (.ptread tag [BitVec.ofNat 8 g.val, BitVec.ofNat 8 i.val, BitVec.ofNat 8 c]) s
        = .next (s.answered 0x16 tag .ok
            ([BitVec.ofNat 8 g.val, BitVec.ofNat 8 i.val, BitVec.ofNat 8 c, patternCode s.store.owner[g]]
              ++ (List.range c).flatMap (fun k => (s.store.entries[g][(i.val + k) % 64]).bytes))))
    ∧ (∀ a b c : Byte, (15 < a.toNat ∨ 63 < b.toNat ∨ c = 0 ∨ 29 < c.toNat) →
        exec (.ptread tag [a, b, c]) s = .next (s.answered 0x16 tag .range []))
    ∧ ∀ p, p.length ≠ 3 → exec (.ptread tag p) s = .next (s.answered 0x16 tag .length []))

/-- PTINFO with id 0 reports the owner of every page, page by page, and changes nothing. That a request with no
transaction open begins one of its own is the model's choice (log 8). -/
def Obligations.PageMapReported : Prop :=
  ∀ (s : State) (tag : Byte), s.takesFrames →
    ∃ bytes, exec (.ptinfoPageMap tag) s = .next (s.answered 0x15 tag .ok bytes) ∧ bytes.length = 16
      ∧ ∀ g : PageNo, bytes[g.val]? = some (match s.store.owner[g] with
          | some p => BitVec.ofNat 8 (p.val + 1)
          | none => 0)

/-- The eight bytes of an entry: each kind code with its fields, a field out of range or an unused byte that is not 0
making the entry malformed; an entry goes out in exactly the form in which it was written. -/
def Obligations.EntryLayout : Prop :=
  (∀ e : SegEntry, e.wf = true → e.bytes.length = 8 ∧ SegEntry.of? e.bytes = some e)
  ∧ (∀ (bytes : List Byte) (e : SegEntry), SegEntry.of? bytes = some e → e.wf = true ∧ e.bytes = bytes)
  ∧ ∀ k a b c d e f g : Byte, SegEntry.of? [k, a, b, c, d, e, f, g] =
    (match k.toNat with
    | 0 => if a = 0 ∧ b = 0 ∧ c = 0 ∧ d = 0 ∧ e = 0 ∧ f = 0 ∧ g = 0 then some .empty else none
    | 1 =>
      if h : a.toNat < 64 then
        if b ++ c ≠ (0 : BitVec 16) ∧ d ++ e ≠ (0x8000 : BitVec 16) ∧ f = 0 ∧ g = 0 then
          some (.line ⟨a.toNat, h⟩ (b ++ c : BitVec 16).toNat (d ++ e : BitVec 16).toInt)
        else none
      else none
    | 2 =>
      if h : a.toNat < 64 then
        if 1 ≤ b.toNat ∧ b.toNat ≤ 15 ∧ c = 0 ∧ -255 ≤ (d ++ e : BitVec 16).toInt
            ∧ (d ++ e : BitVec 16).toInt ≤ 255 ∧ f = 0 ∧ g = 0 then
          some (.lock ⟨a.toNat, h⟩ b.toNat (d ++ e : BitVec 16).toInt)
        else none
      else none
    | 3 =>
      if h : 1 ≤ a.toNat ∧ a.toNat ≤ 32 then
        if b ≠ 0 ∧ c = 0 ∧ d = 0 ∧ e = 0 ∧ f = 0 ∧ g = 0 then some (.call ⟨a.toNat - 1, by omega⟩ b.toNat) else none
      else none
    | 4 => if a = 0 ∧ b = 0 ∧ c = 0 ∧ d = 0 ∧ e = 0 ∧ f = 0 ∧ g = 0 then some .fin else none
    | 5 =>
      if h : a.toNat < 16 then
        if b = 0 ∧ c = 0 ∧ d = 0 ∧ e = 0 ∧ f = 0 ∧ g = 0 then some (.link ⟨a.toNat, h⟩) else none
      else none
    | _ => none)

/-- PTOPEN opens an EMPTY pattern on a free page, and is refused with LENGTH, RANGE, STATE or PAGE_OWNED in that
order. -/
def Obligations.PatternOpened : Prop :=
  ∀ (s : State) (tag : Byte), s.takesFrames →
    let asked (p : List Byte) := exec (.ptopen tag p) s
    let refused (p : List Byte) (st : Status) : Prop := asked p = .next (s.answered 0x10 tag st [])
    (∀ (p : PatternId) (g : PageNo),
      let payload := [BitVec.ofNat 8 (p.val + 1), BitVec.ofNat 8 g.val]
      (s.store.patterns[p].state = .empty → s.store.owner[g] = none →
        asked payload = .next { s with
          store := { s.store with
            patterns := s.store.patterns.set p { s.store.patterns[p] with state := .opened, home := some g }
            owner := s.store.owner.set g (some p) }
          link := s.link.answered 0x10 tag .ok [] })
      ∧ (s.store.patterns[p].state ≠ .empty → refused payload .state)
      ∧ (s.store.patterns[p].state = .empty → s.store.owner[g] ≠ none → refused payload .pageOwned))
    ∧ (∀ i g : Byte, (i = 0 ∨ 32 < i.toNat ∨ 15 < g.toNat) → refused [i, g] .range)
    ∧ ∀ p, p.length ≠ 2 → refused p .length

/-- PTWRITE writes its entries to successive indices of one page of an OPEN pattern, index 63 followed by 0, and a
free page becomes the pattern's. It is refused with LENGTH, RANGE, STATE, PAGE_OWNED or BAD_ENTRY in that order, STATE and
PAGE_OWNED whatever the entries of the run, and changes nothing; BAD_ENTRY names the first malformed entry. -/
def Obligations.EntriesWritten : Prop :=
  ∀ (s : State) (tag : Byte) (p : PatternId) (g : PageNo) (i : EntryNo), s.takesFrames →
    let asked (c : Nat) (run : List Byte) := exec (.ptwrite tag
      ([BitVec.ofNat 8 (p.val + 1), BitVec.ofNat 8 g.val, BitVec.ofNat 8 i.val, BitVec.ofNat 8 c] ++ run)) s
    let refused (st : Status) (bytes : List Byte) := Host.Outcome.next (s.answered 0x11 tag st bytes)
    let mine : Prop := s.store.owner[g] = none ∨ s.store.owner[g] = some p
    (∀ es : List SegEntry, 1 ≤ es.length → es.length ≤ 29 → (∀ e ∈ es, e.wf = true) →
      s.store.patterns[p].state = .opened → mine →
        ∃ entries, (∀ (h : PageNo) (k : EntryNo), entries[h][k]
            = if h = g then es.getD ((k.val + 64 - i.val) % 64) s.store.entries[h][k] else s.store.entries[h][k])
          ∧ asked es.length (es.flatMap SegEntry.bytes) = .next { s with
              store := { s.store with entries := entries, owner := s.store.owner.set g (some p) }
              link := s.link.answered 0x11 tag .ok [] })
    ∧ (∀ (c : Nat) (run : List Byte), 1 ≤ c → c ≤ 29 → run.length = 8 * c →
        (s.store.patterns[p].state ≠ .opened → asked c run = refused .state [])
        ∧ (s.store.patterns[p].state = .opened → ¬ mine → asked c run = refused .pageOwned []))
    ∧ (∀ (good : List SegEntry) (bad more : List Byte) (left : Nat), good.length + 1 + left ≤ 29 →
        (∀ e ∈ good, e.wf = true) → bad.length = 8 → SegEntry.of? bad = none → more.length = 8 * left →
        s.store.patterns[p].state = .opened → mine →
        asked (good.length + 1 + left) (good.flatMap SegEntry.bytes ++ bad ++ more)
          = refused .badEntry [BitVec.ofNat 8 g.val, BitVec.ofNat 8 ((i.val + good.length) % 64)])
    ∧ (∀ (id page first count : Byte) (run : List Byte), run.length = 8 * count.toNat →
        (id = 0 ∨ 32 < id.toNat ∨ 15 < page.toNat ∨ 63 < first.toNat ∨ count = 0 ∨ 29 < count.toNat) →
        exec (.ptwrite tag ([id, page, first, count] ++ run)) s = refused .range [])
    ∧ ∀ payload : List Byte, (payload.length < 4 ∨ payload.length ≠ 4 + 8 * (payload.getD 3 0).toNat) →
        exec (.ptwrite tag payload) s = refused .length []

/-- The closing walk starts at entry 0 of the home page, follows the fall-through path without a repeat, and ends at
an END, on a loop that holds a LINE, LOCK or CALL, or at the first entry that fails it. -/
def Obligations.ClosingWalkFollowsPath : Prop :=
  ∀ (st : Store) (p : PatternId) (home : PageNo),
    let walked (path : List Place2) : Prop :=
      path.head? = some (home, 0) ∧ path.Nodup ∧ path.IsChain (st.Follows p)
    let endsAt (a : Place2) : Prop := ∃ path, walked path ∧ path.getLast? = some a
    match st.closingWalk p home with
    | .closed false path => walked path ∧ ∃ a, path.getLast? = some a ∧ st.entry a = .fin
    | .closed true path => walked path ∧ ∃ pre a loop z, path = pre ++ a :: loop ∧ path.getLast? = some z
        ∧ st.Follows p z a ∧ ∃ q ∈ a :: loop, (st.entry q).sews = true
    | .failed .badEntry a => endsAt a ∧ st.entry a = .empty
    | .failed .badCall a => endsAt a ∧ ∃ m r, st.entry a = .call m r ∧ (m = p ∨ st.patterns[m].state ≠ .closed)
    | .failed .badLink a => endsAt a ∧ ∃ g, st.entry a = .link g ∧ st.owner[g] ≠ some p
    | .failed .badLoop a => ∃ path pre loop z, walked path ∧ path = pre ++ a :: loop ∧ path.getLast? = some z
        ∧ st.Follows p z a ∧ ∀ q ∈ a :: loop, ∃ g, st.entry q = .link g
    | .failed _ _ => False

/-- PTCLOSE: a walk that succeeds closes the pattern with its endless flag, and counts each walked CALL once on its
motif and each walked LINE and LOCK once on its set 1..63; a walk that fails changes nothing, and its place is in the
response. -/
def Obligations.PatternClosed : Prop :=
  ∀ (s : State) (tag : Byte) (p : PatternId), s.takesFrames →
    let asked := exec (.ptclose tag [BitVec.ofNat 8 (p.val + 1)]) s
    let old := s.store.patterns[p]
    (∀ home, old.state = .opened → old.home = some home →
      (∀ endless path, s.store.closingWalk p home = .closed endless path →
        let calls (m : PatternId) := path.countP (fun q => match s.store.entry q with
          | .call m' _ => m' = m
          | _ => false)
        let names (n : SetNo) := path.countP (fun q => match s.store.entry q with
          | .line n' _ _ => n' = n
          | .lock n' _ _ => n' = n
          | _ => false)
        ∃ st, asked = .next { s with
            store := st
            link := s.link.answered 0x12 tag .ok (([if endless then 1 else 0] : List Byte) ++ bytesOf 2 path.length) }
          ∧ st.entries = s.store.entries ∧ st.owner = s.store.owner
          ∧ st.patterns[p] = { old with
              state := .closed
              endless := endless
              useCount := old.useCount + calls p }
          ∧ (∀ m : PatternId, m ≠ p → st.patterns[m] = { s.store.patterns[m] with
              useCount := s.store.patterns[m].useCount + calls m })
          ∧ ∀ n : SetNo, st.sets[n] = { s.store.sets[n] with
              refCount := s.store.sets[n].refCount + if n = 0 then 0 else names n })
      ∧ ∀ status a, s.store.closingWalk p home = .failed status a →
          asked = .next (s.answered 0x12 tag status [BitVec.ofNat 8 a.1.val, BitVec.ofNat 8 a.2.val]))
    ∧ (old.state ≠ .opened → asked = .next (s.answered 0x12 tag .state []))
    ∧ (∀ i : Byte, (i = 0 ∨ 32 < i.toNat) → exec (.ptclose tag [i]) s = .next (s.answered 0x12 tag .range []))
    ∧ ∀ payload, payload.length ≠ 1 → exec (.ptclose tag payload) s = .next (s.answered 0x12 tag .length [])

/-- PTREOPEN after a successful PTCLOSE takes the counts back exactly: the store is again as it was before the
closing. In any well-formed state PTREOPEN of a CLOSED pattern that is not used makes it OPEN and takes one count back
for each entry of its walked path. It is refused with LENGTH, with RANGE, with STATE when the pattern is not CLOSED and
with IN_USE when it is used. -/
def Obligations.ReopenUndoesClose : Prop :=
  ∀ (p : PatternId) (tag : Byte),
    let payload := [BitVec.ofNat 8 (p.val + 1)]
    (∀ (s : State) (tag' : Byte) (home : PageNo) (endless : Bool) (path : List Place2), s.takesFrames →
      s.store.patterns[p] = ⟨.opened, some home, false, 0⟩ → s.store.closingWalk p home = .closed endless path →
      ∃ t, exec (.ptclose tag' payload) s = .next t
        ∧ exec (.ptreopen tag payload) t = .next { t with
            store := s.store
            link := t.link.answered 0x13 tag .ok [] })
    ∧ ∀ u : State, u.takesFrames →
      (u.store.patterns[p].state = .closed → u.store.patterns[p].useCount = 0 →
        ∃ st, exec (.ptreopen tag payload) u = .next { u with
            store := st
            link := u.link.answered 0x13 tag .ok [] }
          ∧ st.entries = u.store.entries ∧ st.owner = u.store.owner
          ∧ st.patterns[p] = { u.store.patterns[p] with state := .opened, endless := false }
          ∧ (u.Wf → ∃ home path, u.store.patterns[p].home = some home
              ∧ u.store.closingWalk p home = .closed u.store.patterns[p].endless path
              ∧ (∀ m : PatternId, m ≠ p → u.store.patterns[m]
                  = { st.patterns[m] with useCount := st.patterns[m].useCount + u.store.callsOn path m })
              ∧ ∀ n : SetNo, u.store.sets[n]
                  = { st.sets[n] with refCount := st.sets[n].refCount + u.store.namesOn path n }))
      ∧ (u.store.patterns[p].state ≠ .closed →
          exec (.ptreopen tag payload) u = .next (u.answered 0x13 tag .state []))
      ∧ (u.store.patterns[p].state = .closed → 0 < u.store.patterns[p].useCount →
          exec (.ptreopen tag payload) u = .next (u.answered 0x13 tag .inUse []))
      ∧ (∀ i : Byte, (i = 0 ∨ 32 < i.toNat) → exec (.ptreopen tag [i]) u = .next (u.answered 0x13 tag .range []))
      ∧ ∀ bytes : List Byte, bytes.length ≠ 1 →
          exec (.ptreopen tag bytes) u = .next (u.answered 0x13 tag .length [])

/-- PTDELETE erases and frees every page of an unused pattern and makes its record EMPTY; of a CLOSED one, in any
well-formed state, it first takes one count back for each entry of its walked path, so that it leaves what deleting it
before its closing would have left. It is refused with LENGTH, with RANGE, with STATE when the pattern is EMPTY and with
IN_USE when it is used. -/
def Obligations.PatternDeleted : Prop :=
  ∀ (p : PatternId) (tag : Byte),
    let payload := [BitVec.ofNat 8 (p.val + 1)]
    let frees (before after : Store) : Prop := ∀ g : PageNo,
      (before.owner[g] = some p → after.owner[g] = none ∧ ∀ i : EntryNo, after.entries[g][i] = .empty)
      ∧ (before.owner[g] ≠ some p → after.owner[g] = before.owner[g] ∧ after.entries[g] = before.entries[g])
    let deletes (s : State) (st : Store) : Prop := exec (.ptdelete tag payload) s = .next { s with
      store := st
      link := s.link.answered 0x14 tag .ok [] }
    (∀ (s : State) (tag' : Byte) (home : PageNo), s.takesFrames →
      s.store.patterns[p] = ⟨.opened, some home, false, 0⟩ →
      ∃ st : Store, deletes s st ∧ frees s.store st
        ∧ st.patterns = s.store.patterns.set p ⟨.empty, none, false, 0⟩ ∧ st.sets = s.store.sets
        ∧ ∀ endless path, s.store.closingWalk p home = .closed endless path →
            ∃ t, exec (.ptclose tag' payload) s = .next t ∧ deletes t st)
    ∧ (∀ u : State, u.takesFrames → u.Wf → u.store.patterns[p].state = .closed → u.store.patterns[p].useCount = 0 →
        ∃ st home path, deletes u st ∧ frees u.store st
          ∧ u.store.patterns[p].home = some home
          ∧ u.store.closingWalk p home = .closed u.store.patterns[p].endless path
          ∧ st.patterns[p] = ⟨.empty, none, false, 0⟩
          ∧ (∀ m : PatternId, m ≠ p → u.store.patterns[m]
              = { st.patterns[m] with useCount := st.patterns[m].useCount + u.store.callsOn path m })
          ∧ ∀ n : SetNo, u.store.sets[n]
              = { st.sets[n] with refCount := st.sets[n].refCount + u.store.namesOn path n })
    ∧ ∀ u : State, u.takesFrames →
      (u.store.patterns[p].state = .empty → exec (.ptdelete tag payload) u = .next (u.answered 0x14 tag .state []))
      ∧ (u.store.patterns[p].state ≠ .empty → 0 < u.store.patterns[p].useCount →
          exec (.ptdelete tag payload) u = .next (u.answered 0x14 tag .inUse []))
      ∧ (∀ i : Byte, (i = 0 ∨ 32 < i.toNat) → exec (.ptdelete tag [i]) u = .next (u.answered 0x14 tag .range []))
      ∧ ∀ bytes : List Byte, bytes.length ≠ 1 →
          exec (.ptdelete tag bytes) u = .next (u.answered 0x14 tag .length [])

/-! ### Strokes -/

/-- A stroke event takes W, classifies the stroke by its advance from the bar's reference, and moves the reference to
W unless the advance is 0 or less; a first stroke is a STALL that sets it. One rising edge of STROKE gives each bar
one stroke event, and an edge is measured against the level last taken (log 5). -/
def Obligations.StrokeIsClassified : Prop :=
  ∀ (s : State) (b : Bar), s.inputs.operates = true →
    (s.StrokeArrives b → ∃ t, exec (.strokeEvent b) s = .next t
      ∧ t = { s with
          inputs := t.inputs
          table := t.table
          bars := t.bars
          needles := t.needles
          scans := t.scans
          events := t.events
          messages := t.messages
          strokesDue := t.strokesDue
          choices := t.choices }
      ∧ (∀ c, c ≠ b → t.bars.get c = s.bars.get c)
      ∧ ((s.bars.get b).reference.last = none → (t.bars.get b).reference = ⟨some s.w, .stall, 0⟩)
      ∧ (∀ last, (s.bars.get b).reference.last = some last →
          let d := webDist s.w last
          (t.bars.get b).reference = ⟨some (if d ≤ 0 then last else s.w),
            if d < 0 then .reverse else if d < s.params.slMin then .stall
              else if d ≤ s.params.slMax then .normal else .long, d⟩)
      ∧ t.inputs = { s.inputs with stroke := s.inputs.stroke || s.strokesDue.get b == 0 }
      ∧ ∀ c, t.strokesDue.get c
          = if s.strokesDue.get b = 0 then (if c = b then 0 else s.strokesDue.get c + 1)
            else s.strokesDue.get c - (if c = b then 1 else 0))
    ∧ (¬ s.StrokeArrives b → exec (.strokeEvent b) s = .next s)

/-- At a stroke event the bar applies what is staged, takes the halt reasons, and runs or stops; BAR_HALTED is raised
when a RUNNING bar stops for a reason other than REQUESTED, SELECT_LATE when a select transfer is overtaken. A running
stroke sends X as 16 bits of two's complement, most significant bit first, and starts a transfer of its frame; a stopped
one does neither and holds X. -/
def Obligations.StrokeSettlesControl : Prop :=
  ∀ (s : State) (b : Bar), s.StrokeArrives b →
    let c := (s.bars.get b).control
    ∃ t, exec (.strokeEvent b) s = .next t
      ∧ let c' := (t.bars.get b).control
        let q' := (t.bars.get b).place
        c' = {
          run := c'.run
          pendingRun := none
          latched := c.latched
          requested := c.pendingRun = some .stop || (c.pendingRun = none && c.requested)
          override := s.overrideNext b
          pendingOverride := none
          rehearsal := s.rehearsalNext b
          pendingRehearsal := none
          transfer := c'.transfer
          driveCommand := c'.driveCommand }
        ∧ (s.RunsNext b → c'.run = .running ∧ c'.driveCommand = some (BitVec.ofInt 16 q'.x)
            ∧ (∀ n : Nat, n < 16 → t.driveBit b n = some ((BitVec.ofInt 16 q'.x).getLsbD (15 - n)))
            ∧ c'.transfer = some q'.previous
            ∧ q'.previous.needles = if s.rehearsalNext b then 0 else q'.engaged)
        ∧ (¬ s.RunsNext b → c'.run = .stopped ∧ c'.driveCommand = c.driveCommand ∧ c'.transfer = none
            ∧ q'.previous = ⟨0, none⟩ ∧ q'.engaged = 0 ∧ q'.x = (s.bars.get b).place.x ∧ q'.outcome = .stopped)
        ∧ let halts : Prop := c.run = .running ∧ ¬ s.RunsNext b
            ∧ (c.latched ≠ ⟨false, false, false, false⟩ ∨ s.inputs.freeze = true
              ∨ s.inputs.driveFault.get b = true)
          (halts → t.event .barHalted = ⟨min ((s.event .barHalted).count + 1) 255, some (.bar b)⟩)
          ∧ (¬ halts → t.event .barHalted = s.event .barHalted)
          ∧ (c.transfer ≠ none →
              t.event .selectLate = ⟨min ((s.event .selectLate).count + 1) 255, some (.bar b)⟩)
          ∧ (c.transfer = none → t.event .selectLate = s.event .selectLate)

/-- What a stroke may do to the machine: X stays within the travel limits and moves by at most STEP_MAX, and only on a
PLACED stroke; and a needle is selected only on a running stroke of class NORMAL or LONG, outside rehearsal, in a live
panel under the bar's line that has a pattern for the bar and is not aborted, when the needle is READY or PROBATION,
not overridden, and in the panel's width set. -/
def Obligations.StrokeActsWithinBounds : Prop :=
  ∀ (s : State) (b : Bar), s.StrokeArrives b →
    ∃ t, exec (.strokeEvent b) s = .next t
      ∧ let q := (s.bars.get b).place
        let q' := (t.bars.get b).place
        (s.params.xMin.get b ≤ q.x → q.x ≤ s.params.xMax.get b → s.params.xMin.get b ≤ s.params.xMax.get b →
          s.params.xMin.get b ≤ q'.x ∧ q'.x ≤ s.params.xMax.get b ∧ (q'.x - q.x).natAbs ≤ s.params.stepMax.get b)
        ∧ (q'.outcome ≠ .placed → q'.x = q.x)
        ∧ ∀ n : NeedleNo, q'.previous.needles.getLsbD n.val = true →
            s.RunsNext b ∧ s.ForwardNext b ∧ s.rehearsalNext b = false
            ∧ ∃ r ∈ t.table.records, q'.previous.panel = some r.head ∧ q'.current = some ⟨r.head, .inside⟩
              ∧ s.Over b r ∧ (r.bars.get b).pattern ≠ none ∧ r.aborted = false
              ∧ (∀ w, (r.bars.get b).widthSet = some w → s.store.sets[w].members.getLsbD n.val = true)
              ∧ ((t.needle b n).state = .ready ∨ (t.needle b n).state = .probation)
              ∧ (s.overrideNext b).getLsbD n.val = false

/-- Every message of a bar still in flight is taken before its next stroke is evaluated, in the order sent but that the
scan request may go first (log 4), the order of the notices to different panels being the model's choice (log 32); then
the stroke sends at most one defect notice for each panel, a consumption notice when it runs and is NORMAL or LONG, and
a scan request with the frame of the stroke before. SELECT_LATE is noted on the panel of an overtaken frame; REHEARSED
at a running stroke in rehearsal, LONG_STITCH at a placement stroke of class LONG and SEG_OVERRUN at an OVERRUN stroke,
on the panel the stroke is located in; TRAVEL_CLAMP and LAG only at a PLACED stroke; and a stroke notes no BREAK,
THREAD_OUT, BAR_SKIPPED, CUT_MISSED or ABORTED. -/
def Obligations.StrokeTakesAndSendsMessages : Prop :=
  ∀ (s : State) (b : Bar), s.StrokeArrives b →
    ∃ (t before : State) (order sent : List Message), exec (.strokeEvent b) s = .next t
      ∧ List.Perm order (s.messages.filter (Message.sentBy b))
      ∧ order.filter (fun m => !m.isScan) = (s.messages.filter (Message.sentBy b)).filter (fun m => !m.isScan)
      ∧ before = order.foldl State.deliver { s with
          inputs := t.inputs
          messages := s.messages.filter (fun m => !Message.sentBy b m)
          strokesDue := t.strokesDue
          choices := t.choices }
      ∧ t.table = before.table ∧ t.needles = before.needles ∧ t.scans = before.scans
      ∧ (∀ m ∈ before.messages, m.sentBy b = false)
      ∧ (∀ e, e ≠ .barHalted → e ≠ .selectLate → t.event e = before.event e)
      ∧ let q := (s.bars.get b).place
        let q' := (t.bars.get b).place
        let consumed (adv : Int) := Message.consumption ⟨b, adv, q'.previous.needles, q'.previous.panel⟩
        t.messages = before.messages ++ sent ++ t.messages.drop (before.messages.length + sent.length)
        ∧ (∀ m ∈ sent, (∃ h news, m = .status ⟨b, h, news⟩)
            ∨ ∃ h kinds, m = .notice ⟨b, h, kinds, s.yAt b h⟩ ∧ kinds ≠ 0)
        ∧ (∀ (i j : Nat) h k k' y y', i < j → sent[i]? = some (Message.notice ⟨b, h, k, y⟩) →
            sent[j]? ≠ some (Message.notice ⟨b, h, k', y'⟩))
        ∧ (let noted (h : Word) (k : DefectKind) : Prop := ∃ kinds : DefectSet,
              .notice ⟨b, h, kinds, s.yAt b h⟩ ∈ sent ∧ kinds.getLsbD k.number = true
          let sewsIn (h : Word) : Prop := s.RunsNext b ∧ ∃ r, r.head = h ∧ before.Covers b r
            ∧ q'.current = some ⟨h, .inside⟩ ∧ (r.bars.get b).pattern ≠ none
          ∀ h, (noted h .selectLate ↔ s.NotesLate b h .selectLate)
            ∧ (noted h .rehearsed ↔ sewsIn h ∧ s.rehearsalNext b = true)
            ∧ (noted h .longStitch ↔ sewsIn h ∧ s.LongNext b)
            ∧ (noted h .segOverrun ↔ sewsIn h ∧ q'.outcome = .overrun)
            ∧ (noted h .travelClamp ∨ noted h .lag → sewsIn h ∧ q'.outcome = .placed)
            ∧ (noted h .motifDepth → sewsIn h ∧ s.ForwardNext b)
            ∧ ¬ noted h .needleBreak ∧ ¬ noted h .threadOut ∧ ¬ noted h .barSkipped ∧ ¬ noted h .cutMissed
            ∧ ¬ noted h .aborted)
        ∧ (s.RunsNext b → ∀ adv, s.AdvanceIs b adv → (s.params.slMin : Int) ≤ adv → 0 ≤ adv →
            t.messages.drop (before.messages.length + sent.length)
              = [consumed adv, .scan ⟨b, true, q.previous.needles, q.previous.panel⟩])
        ∧ (s.RunsNext b → (∀ adv, s.AdvanceIs b adv → adv < s.params.slMin) →
            t.messages.drop (before.messages.length + sent.length)
              = [.scan ⟨b, true, q.previous.needles, q.previous.panel⟩])
        ∧ (¬ s.RunsNext b →
            t.messages.drop (before.messages.length + sent.length)
              = [.scan ⟨b, false, q.previous.needles, q.previous.panel⟩])

/-- A stroke that finds its line in a panel newer than the bar's current one, or in its first panel, enters it: the
placement context starts from the head. A panel that the bar is still in is left first, judged on the context as the
stroke found it. Where the panel entered has a pattern for the bar a running bar sends SEWING, and a stopped one SHORT
with BAR_SHORT; where it has none the model sends nothing (log 17). A stroke that places nothing leaves the context so; a
placement stroke goes on from it as it would in a panel just entered. A stroke in the panel the bar is in that places
nothing only raises the last Y, and a first stopped one there sends SHORT with BAR_SHORT. A pattern without a home page,
which no run has, would start on page 0 (log 19). -/
def Obligations.StrokeEntersPanel : Prop :=
  ∀ (s : State) (b : Bar) (r : PanelRecord), s.StrokesAlone b → s.Covers b r →
    let q := (s.bars.get b).place
    let sews : Prop := (r.bars.get b).pattern ≠ none
    let rests : StrokeOutcome := if (r.bars.get b).pattern = none then .idle else .held
    let slow : Prop := ∀ adv, s.AdvanceIs b adv → adv < s.params.slMin ∨ adv < 0
    ((∀ c, q.current = some c → 0 < webDist r.head c.head) →
      (¬ s.RunsNext b ∨ slow →
        ∃ t, exec (.strokeEvent b) s = .next t
          ∧ (s.RunsNext b → (t.bars.get b).place = { s.entered b r with
              engaged := 0
              previous := ⟨0, some r.head⟩
              outcome := rests })
          ∧ (¬ s.RunsNext b → (t.bars.get b).place = { s.entered b r with
              stoppedInPanel := true
              engaged := 0
              previous := ⟨0, none⟩
              outcome := .stopped })
          ∧ s.Sends t b
              (fun m => sews ∧ (s.RunsNext b ∧ m = ⟨b, r.head, .sewing⟩ ∨ ¬ s.RunsNext b ∧ m = ⟨b, r.head, .short⟩)
                ∨ s.TellsLeaving b m)
              (fun h k => h = r.head ∧ sews ∧ (¬ s.RunsNext b ∧ k = .barShort
                  ∨ s.RunsNext b ∧ s.rehearsalNext b = true ∧ k = .rehearsed)
                ∨ s.NotesLeaving b h k ∨ s.NotesLate b h k))
      ∧ (s.RunsNext b →
        let s' := s.withPlace b (s.entered b r)
        ∃ t t', exec (.strokeEvent b) s = .next t ∧ exec (.strokeEvent b) s' = .next t'
          ∧ t.bars = t'.bars ∧ t.events = t'.events
          ∧ s.Sends t b
              (fun m => sews ∧ m = ⟨b, r.head, .sewing⟩ ∨ s.TellsLeaving b m)
              (fun h k => s'.Notes t' b h k ∨ s.NotesLeaving b h k)))
    ∧ (q.current = some ⟨r.head, .inside⟩ → ¬ s.RunsNext b ∨ slow ∨ ¬ sews →
      let after : Place := { q with lastY := max q.lastY (s.yAt b r.head), engaged := 0 }
      let stops : Prop := ¬ s.RunsNext b ∧ sews ∧ q.stoppedInPanel = false
      ∃ t, exec (.strokeEvent b) s = .next t
        ∧ (s.RunsNext b → (t.bars.get b).place = { after with previous := ⟨0, some r.head⟩, outcome := rests })
        ∧ (¬ s.RunsNext b → (t.bars.get b).place
            = { after with stoppedInPanel := true, previous := ⟨0, none⟩, outcome := .stopped })
        ∧ s.Sends t b (fun m => stops ∧ m = ⟨b, r.head, .short⟩)
            (fun h k => h = r.head ∧ (stops ∧ k = .barShort
                ∨ s.RunsNext b ∧ sews ∧ s.rehearsalNext b = true ∧ k = .rehearsed)
              ∨ s.NotesLate b h k))

/-- A gap stroke, whose line lies in no panel or in one that the bar has left or that is older than its current panel,
leaves the panel the bar is in when the panel's end has passed or its record is gone: with DONE when the bar stroked
within SL_MAX of the end and with SHORT and BAR_SHORT when it did not, unless it was stopped there, and with TIE_SHORT
when its tie was cut short; a line back before the head leaves nothing. Where the panel has no pattern for the bar
nothing is sent. Besides, a gap stroke notes SELECT_LATE alone. -/
def Obligations.StrokeLeavesPanel : Prop :=
  ∀ (s : State) (b : Bar), s.StrokesAlone b →
    let q := (s.bars.get b).place
    (∀ r, s.Covers b r → ∃ c, q.current = some c
      ∧ (c = ⟨r.head, .left⟩ ∨ c.head ≠ r.head ∧ ¬ 0 < webDist r.head c.head)) →
    ∃ t, exec (.strokeEvent b) s = .next t
      ∧ let q' := (t.bars.get b).place
        let silent : Prop := s.Sends t b (fun _ => False) (s.NotesLate b)
        q' = { q with
          current := q'.current
          engaged := 0
          previous := ⟨0, none⟩
          outcome := q'.outcome }
        ∧ (s.RunsNext b → q'.outcome = .gap) ∧ (¬ s.RunsNext b → q'.outcome = .stopped)
        ∧ ((∀ h, q.current ≠ some ⟨h, .inside⟩) → q'.current = q.current ∧ silent)
        ∧ ∀ h, q.current = some ⟨h, .inside⟩ →
            ((∀ r ∈ s.table.records, r.head ≠ h) → q'.current = some ⟨h, .left⟩ ∧ silent)
            ∧ ∀ pre r post, s.Holds (·.head) pre r post → r.head = h →
              (s.yAt b h < r.length → q'.current = some ⟨h, .inside⟩ ∧ silent)
              ∧ ((r.length : Int) ≤ s.yAt b h → q'.current = some ⟨h, .left⟩
                ∧ s.Sends t b (s.TellsLeaving b) (fun h k => s.NotesLeaving b h k ∨ s.NotesLate b h k))

/-- A PLACED stroke on the segment under the cursor: on a LINE the pattern position runs in proportion to the web, the
quotient rounded to the nearest with halves away from zero, on a LOCK it stands and the lock offset alternates; the
target is clamped to the travel limits and X moves towards it by at most STEP_MAX; and the engaged set is formed from
the segment's set. TRAVEL_CLAMP is noted when the clamp changes the target, LAG when the move is limited, and else what
every placement stroke notes; no status is sent. -/
def Obligations.StrokePlacedOnSegment : Prop :=
  ∀ (s : State) (b : Bar) (r : PanelRecord) (c : Cursor) (segment : SetNo) (quotient offset : Int) (k : Nat),
    s.StrokesAlone b → s.RunsNext b → s.ForwardNext b → 1 ≤ s.params.slMin → s.StandsIn b r →
    let q := (s.bars.get b).place
    let y := s.yAt b r.head
    (r.bars.get b).pattern ≠ none → q.tail = .outside → (r.tailMargin = 0 ∨ y < (r.length : Int) - r.tailMargin) →
    q.finished = false → q.cursor = some c →
    ((∃ dy dx, s.store.entry (c.page, c.index) = .line segment dy dx ∧ 1 ≤ dy ∧ y - q.ys < dy
        ∧ 2 * (quotient * dy - dx * (y - q.ys)).natAbs ≤ dy
        ∧ (2 * (quotient * dy - dx * (y - q.ys)).natAbs = dy → (dx * (y - q.ys)).natAbs ≤ (quotient * dy).natAbs)
        ∧ offset = 0 ∧ k = q.lockCount)
      ∨ ∃ n a, s.store.entry (c.page, c.index) = .lock segment n a ∧ q.lockCount < n
        ∧ quotient = 0 ∧ k = q.lockCount + 1 ∧ offset = if k % 2 = 1 then a else 0) →
    ∃ t engaged, exec (.strokeEvent b) s = .next t
      ∧ (∀ n : NeedleNo, engaged.getLsbD n.val = true ↔ s.Engages b r s.store.sets[segment].members n)
      ∧ let p' := max (-65535) (min 65535 (q.ps + quotient))
        let p := if k = q.lockCount then p' else q.ps
        let target := (r.bars.get b).origin + p + offset
        let clamped :=
          if target < s.params.xMin.get b then s.params.xMin.get b
          else if s.params.xMax.get b < target then s.params.xMax.get b else target
        let x := if (clamped - q.x).natAbs ≤ s.params.stepMax.get b then clamped
          else if q.x < clamped then q.x + s.params.stepMax.get b else q.x - s.params.stepMax.get b
        let frame : SentFrame := ⟨if s.rehearsalNext b then 0 else engaged, some r.head⟩
        (t.bars.get b).place = { q with
          lastY := max q.lastY y
          lockCount := k
          p := p
          x := x
          engaged := engaged
          previous := frame
          outcome := .placed }
        ∧ (t.bars.get b).control.driveCommand = some (BitVec.ofInt 16 x)
        ∧ (t.bars.get b).control.transfer = some frame
        ∧ s.Sends t b (fun _ => False) (fun h k => h = r.head ∧ (k = .travelClamp ∧ clamped ≠ target
              ∨ k = .lag ∧ s.params.stepMax.get b < (clamped - q.x).natAbs ∨ s.NotesPlacing b k)
            ∨ s.NotesLate b h k)

/-- A placement stroke in the tail zone holds the cursor and X; while the set S under the cursor is not empty and
fewer than TAIL_TIE tie strokes are done it is a TIE stroke that engages from S, and otherwise POST_TIE. S is the set of
a LINE or LOCK under the cursor; with the cursor on any other entry it is empty, and the stroke is POST_TIE. It notes
what every placement stroke notes, and no status is sent. -/
def Obligations.StrokeTiesTail : Prop :=
  ∀ (s : State) (b : Bar) (r : PanelRecord) (done : Nat) (tied : NeedleSet),
    s.StrokesAlone b → s.RunsNext b → s.ForwardNext b → 1 ≤ s.params.slMin → s.StandsIn b r →
    let q := (s.bars.get b).place
    let y := s.yAt b r.head
    (r.bars.get b).pattern ≠ none →
    (q.tail = .tie done
      ∨ done = 0 ∧ q.tail = .outside ∧ 1 ≤ r.tailMargin ∧ (r.length : Int) - r.tailMargin ≤ y) →
    let onNone : Prop := q.cursor = none ∨ ∃ c, q.cursor = some c
      ∧ (s.store.entry (c.page, c.index) = .fin ∨ s.store.entry (c.page, c.index) = .empty
        ∨ (∃ m n, s.store.entry (c.page, c.index) = .call m n) ∨ ∃ g, s.store.entry (c.page, c.index) = .link g)
    ((∃ c segment dy dx, q.cursor = some c ∧ s.store.entry (c.page, c.index) = .line segment dy dx
        ∧ tied = s.store.sets[segment].members)
      ∨ (∃ c segment n a, q.cursor = some c ∧ s.store.entry (c.page, c.index) = .lock segment n a
        ∧ tied = s.store.sets[segment].members)
      ∨ onNone ∧ tied = 0) →
    ∃ t engaged, exec (.strokeEvent b) s = .next t
      ∧ (∀ n : NeedleNo, engaged.getLsbD n.val = true ↔ s.Engages b r tied n)
      ∧ (let tie : Prop := tied ≠ 0 ∧ done < s.params.tailTie
        let after (e : NeedleSet) : Place := { q with
          lastY := max q.lastY y
          engaged := e
          previous := ⟨if s.rehearsalNext b then 0 else e, some r.head⟩ }
        (tie → (t.bars.get b).place = { after engaged with tail := .tie (done + 1), outcome := .tie })
        ∧ (¬ tie → (t.bars.get b).place = { after 0 with tail := .tie done, outcome := .postTie }))
      ∧ s.Sends t b (fun _ => False) (fun h k => h = r.head ∧ s.NotesPlacing b k ∨ s.NotesLate b h k)

/-! ### Bar control -/

/-- The requests to a bar stage a run, a stop, an override set and a rehearsal change; BRUN clears the latched halt
reasons, and is refused with HALTED while FREEZE or the bar's DRIVE_FAULT is asserted. -/
def Obligations.BarRequestsStage : Prop :=
  ∀ (s : State) (tag : Byte) (b : Bar), s.takesFrames →
    let c := (s.bars.get b).control
    let becomes (kind : Byte) (c' : Control) (bytes : List Byte) : Host.Outcome State Fault Refusal := .next { s with
      bars := s.bars.set b { s.bars.get b with control := c' }
      link := s.link.answered kind tag .ok bytes }
    (s.inputs.freeze = false → s.inputs.driveFault.get b = false → exec (.brun tag [barNumber b]) s
      = becomes 0x30 { c with
          latched := ⟨false, false, false, false⟩
          pendingRun := if c.run = .stopped then some .run else none }
        [if c.run = .running then 1 else 0, if c.run = .stopped then 1 else 0, if c.requested then 64 else 0])
    ∧ (s.inputs.freeze = true ∨ s.inputs.driveFault.get b = true → exec (.brun tag [barNumber b]) s
        = .next (s.answered 0x30 tag .halted (s.summaryForm b)))
    ∧ exec (.bstop tag [barNumber b]) s = becomes 0x31 { c with pendingRun := some .stop }
        [if c.run = .running then 1 else 0, 2, BitVec.ofNat 8 (s.haltCode b)]
    ∧ (∀ numbers : List Byte, numbers.length ≤ 40 → (∀ n ∈ numbers, n.toNat ≤ 39) →
        ∃ set : NeedleSet, (∀ k, set.getLsbD k = true ↔ ∃ n ∈ numbers, n.toNat = k)
          ∧ exec (.boverride tag ([barNumber b, BitVec.ofNat 8 numbers.length] ++ numbers)) s
            = becomes 0x32 { c with pendingOverride := some set } [if c.pendingOverride = none then 0 else 1])
    ∧ (∀ on : Bool, exec (.brehearse tag [barNumber b, if on then 1 else 0]) s
        = becomes 0x33 { c with pendingRehearsal := some on } [if c.pendingRehearsal = none then 0 else 1])
    ∧ (∀ x : Byte, 2 < x.toNat → exec (.brun tag [x]) s = .next (s.answered 0x30 tag .range [])
        ∧ exec (.bstop tag [x]) s = .next (s.answered 0x31 tag .range []))
    ∧ (∀ (x m : Byte) (numbers : List Byte), numbers.length = m.toNat →
        (2 < x.toNat ∨ 40 < m.toNat ∨ ∃ n ∈ numbers, 39 < n.toNat) →
        exec (.boverride tag ([x, m] ++ numbers)) s = .next (s.answered 0x32 tag .range []))
    ∧ (∀ x m : Byte, (2 < x.toNat ∨ 1 < m.toNat) →
        exec (.brehearse tag [x, m]) s = .next (s.answered 0x33 tag .range []))
    ∧ ∀ p : List Byte, (p.length ≠ 1 → exec (.brun tag p) s = .next (s.answered 0x30 tag .length [])
          ∧ exec (.bstop tag p) s = .next (s.answered 0x31 tag .length []))
        ∧ (p.length < 2 ∨ p.length ≠ 2 + (p.getD 1 0).toNat →
          exec (.boverride tag p) s = .next (s.answered 0x32 tag .length []))
        ∧ (p.length ≠ 2 → exec (.brehearse tag p) s = .next (s.answered 0x33 tag .length []))

/-- FREEZE and DRIVE_FAULT are followed and change nothing else. An echo ends the select transfer in flight; when it
differs from the frame at any position SELECT_FAULT is raised and SELECT latched on the bar, so that the bar's next
stroke is stopped and raises BAR_HALTED if the bar was running; that stroke asks a scan against the frame that was sent,
and a panel that the bar is in learns of the halt by SHORT and BAR_SHORT. No notice is sent at the echo, and with no
transfer in flight the echo is ignored. -/
def Obligations.LevelsAndEchoes : Prop :=
  ∀ (s : State) (b : Bar), s.inputs.operates = true →
    (∀ level, exec (.freeze level) s = .next { s with inputs := { s.inputs with freeze := level } }
      ∧ exec (.driveFault b level) s
        = .next { s with inputs := { s.inputs with driveFault := s.inputs.driveFault.set b level } })
    ∧ ∀ echo : NeedleSet,
      let c := (s.bars.get b).control
      (c.transfer = none → exec (.selectEcho b echo) s = .next s)
      ∧ ∀ sent : SentFrame, c.transfer = some sent →
        ((∀ n : NeedleNo, echo.getLsbD n.val = sent.needles.getLsbD n.val) → exec (.selectEcho b echo) s = .next { s with
          bars := s.bars.set b { s.bars.get b with control := { c with transfer := none } } })
        ∧ ((∃ n : NeedleNo, echo.getLsbD n.val ≠ sent.needles.getLsbD n.val) → ∃ t, exec (.selectEcho b echo) s = .next t
          ∧ t = { s with
            bars := s.bars.set b { s.bars.get b with control := { c with
              transfer := none
              latched := { c.latched with select := true } } }
            events := s.events.set 10 ⟨min ((s.event .selectFault).count + 1) 255, some (.bar b)⟩ }
          ∧ (t.StrokeArrives b → ∃ u, exec (.strokeEvent b) t = .next u
            ∧ (u.bars.get b).control.run = .stopped ∧ (u.bars.get b).place.outcome = .stopped
            ∧ (c.run = .running → u.event .barHalted = raised (t.event .barHalted) (.bar b))
            ∧ (let previous := (s.bars.get b).place.previous
              .scan ⟨b, false, previous.needles, previous.panel⟩ ∈ u.messages)
            ∧ ∀ r, t.StandsIn b r → (r.bars.get b).pattern ≠ none → (s.bars.get b).place.stoppedInPanel = false →
              .status ⟨b, r.head, .short⟩ ∈ u.messages
                ∧ ∃ kinds : DefectSet, .notice ⟨b, r.head, kinds, t.yAt b r.head⟩ ∈ u.messages
                  ∧ kinds.getLsbD DefectKind.barShort.number = true))

/-! ### Needle records -/

/-- A scan request starts a scan, for which the bar's sensor chain is clocked; one still in flight is abandoned, with SCAN_LATE when it expected any needle; and a
running request lowers the retry countdowns of the bar, a needle whose countdown runs out going to PROBATION.
RETRY_COUNTDOWN_EXPIRY is the request at which the named needle's countdown runs out, and nothing else (log 7). The copy
in flight is used up, and a request not in flight is taken all the same (log 3). -/
def Obligations.ScanRequestTaken : Prop :=
  ∀ (s : State) (r : ScanRequest), s.inputs.operates = true →
    (∃ t, exec (.scanRequest r) s = .next t
      ∧ t = { s with scans := t.scans, needles := t.needles, events := t.events, messages := t.messages }
      ∧ t.messages = s.messages.erase (.scan r)
      ∧ t.scans = s.scans.set r.bar (.scanning ⟨r.expected, r.panel⟩) ∧ t.scanOut r.bar = true
      ∧ (let late : Prop := ∃ old, s.scans.get r.bar = .scanning old ∧ old.expected ≠ 0
        (late → t.event .scanLate = ⟨min ((s.event .scanLate).count + 1) 255, some (.bar r.bar)⟩)
        ∧ (¬ late → t.event .scanLate = s.event .scanLate))
      ∧ (∀ e, e ≠ .scanLate → t.event e = s.event e)
      ∧ (∀ b n, b ≠ r.bar ∨ r.running = false → t.needle b n = s.needle b n)
      ∧ (r.running = true → ∀ n, let q := s.needle r.bar n
          (q.state = .broken → ∀ c, q.countdown = some (c + 2) →
            t.needle r.bar n = { q with countdown := some (c + 1) })
          ∧ (q.state = .broken → q.countdown = some 1 →
            t.needle r.bar n = { q with
              state := .probation
              progress := 0
              countdown := none
              retries := q.retries - 1 })
          ∧ (q.state ≠ .broken ∨ q.countdown = none → t.needle r.bar n = q)))
    ∧ ∀ n : NeedleNo,
        (r.running = true → (s.needle r.bar n).state = .broken → (s.needle r.bar n).countdown = some 1 →
          exec (.retryCountdownExpiry n r) s = exec (.scanRequest r) s
          ∧ ∃ t, exec (.retryCountdownExpiry n r) s = .next t ∧ (t.needle r.bar n).state = .probation)
        ∧ (r.running = false ∨ (s.needle r.bar n).state ≠ .broken ∨ (s.needle r.bar n).countdown ≠ some 1 →
          exec (.retryCountdownExpiry n r) s = .next s)

/-- A scan data arrival ends the clocking of the chain and with it the scan in flight, and evaluates the needles of its expected set, each on the channel
SKEW gives it: a READY needle gathers a miss or forgets its misses, and breaks at MISS_LIMIT, to RETIRED at
BREAK_LIMIT; a PROBATION needle gathers progress to READY, or fails; any break sends one BREAK notice. NEEDLE_BROKEN,
NEEDLE_RETIRED and PROBATION_PASSED are raised once for each needle concerned, in ascending order. With no scan in flight
the data is ignored, and a chain still clocked after LINECLEAR comes to rest. -/
def Obligations.ScanEvaluated : Prop :=
  ∀ (s : State) (b : Bar) (channels : NeedleSet), s.inputs.operates = true →
    (s.scans.get b = .atRest → exec (.scanDataArrival b channels) s = .next s)
    ∧ (s.scans.get b = .abandoned →
        exec (.scanDataArrival b channels) s = .next { s with scans := s.scans.set b .atRest })
    ∧ ∀ scan, s.scans.get b = .scanning scan →
      let p := s.params
      let motion (n : NeedleNo) : Prop := channels.getLsbD ((n.val + p.skew.get b) % 40) = true
      let taken (n : NeedleNo) : Prop := scan.expected.getLsbD n.val = true
      let misses (n : NeedleNo) : Prop := taken n ∧ (s.needle b n).state = .ready ∧ ¬ motion n
        ∧ p.missLimit ≤ (s.needle b n).misses + 1
      let fails (n : NeedleNo) : Prop := taken n ∧ (s.needle b n).state = .probation ∧ ¬ motion n
      let passes (n : NeedleNo) : Prop := taken n ∧ (s.needle b n).state = .probation ∧ motion n
        ∧ p.probation ≤ (s.needle b n).progress + 1
      ∃ t, exec (.scanDataArrival b channels) s = .next t
        ∧ t = { s with scans := t.scans, needles := t.needles, events := t.events, messages := t.messages }
        ∧ t.scans = s.scans.set b .atRest ∧ t.scanOut b = false
        ∧ (∀ c n, c ≠ b → t.needle c n = s.needle c n)
        ∧ (∀ n, let q := s.needle b n
            let countdown (retries : Nat) := if 0 < retries then some p.retryGap else none
            (¬ taken n ∨ ¬ q.Fit → t.needle b n = q)
            ∧ (taken n → q.state = .ready → motion n → t.needle b n = { q with misses := 0 })
            ∧ (taken n → q.state = .ready → ¬ motion n → q.misses + 1 < p.missLimit →
                t.needle b n = { q with misses := q.misses + 1 })
            ∧ (misses n → q.breaks + 1 < p.breakLimit → t.needle b n = { q with
                state := .broken
                misses := 0
                breaks := q.breaks + 1
                retries := p.retries
                countdown := countdown p.retries })
            ∧ (misses n → p.breakLimit ≤ q.breaks + 1 →
                t.needle b n = { q with state := .retired, misses := 0, breaks := q.breaks + 1 })
            ∧ (taken n → q.state = .probation → motion n → q.progress + 1 < p.probation →
                t.needle b n = { q with progress := q.progress + 1 })
            ∧ (passes n → t.needle b n = { q with state := .ready, progress := 0, misses := 0 })
            ∧ (fails n → t.needle b n = { q with
                state := .broken
                progress := 0
                countdown := countdown q.retries }))
        ∧ ((∀ n, ¬ misses n ∧ ¬ fails n) → t.messages = s.messages)
        ∧ (∀ n h, (misses n ∨ fails n) → scan.panel = some h →
            t.messages = s.messages ++ [.notice ⟨b, h, DefectKind.needleBreak.bit, s.yAt b h⟩])
        ∧ (s.event .needleBroken).RaisedFor (t.event .needleBroken) b (fun n => misses n ∨ fails n)
        ∧ (s.event .needleRetired).RaisedFor (t.event .needleRetired) b
            (fun n => misses n ∧ p.breakLimit ≤ (s.needle b n).breaks + 1)
        ∧ (s.event .probationPassed).RaisedFor (t.event .probationPassed) b passes
        ∧ ∀ e, e ≠ .needleBroken → e ≠ .needleRetired → e ≠ .probationPassed → t.event e = s.event e

/-- A consumption notice draws thread from every needle of its frame: the advance, capped at 1,023, by TF_b
sixty-fourths, rounded up. A needle left at or below the reserve is warned once, with THREAD_LOW raised for it; one that
has no more than is drawn is exhausted, with THREAD_OUT raised for it, to THREAD_OUT unless it is RETIRED; and exhaustion
sends one THREAD_OUT notice. Needles raise in ascending order. The copy in flight is used up, and a notice not in flight
is taken all the same (log 3). -/
def Obligations.ThreadConsumed : Prop :=
  ∀ (s : State) (m : ConsumptionNotice) (c : Nat), s.inputs.operates = true → 1 ≤ m.advance →
    1 ≤ s.params.threadFactor.get m.bar →
    min m.advance 1023 * s.params.threadFactor.get m.bar ≤ 64 * c →
    64 * ((c : Int) - 1) < min m.advance 1023 * s.params.threadFactor.get m.bar →
    let reserve := s.params.threadReserve
    let drawn (n : NeedleNo) : Prop := m.frame.getLsbD n.val = true ∧ 0 < (s.needle m.bar n).thread
    let out (n : NeedleNo) : Prop := drawn n ∧ (s.needle m.bar n).thread ≤ c
    ∃ t, exec (.consumptionNotice m) s = .next t
      ∧ t = { s with needles := t.needles, events := t.events, messages := t.messages }
      ∧ (∀ b n, b ≠ m.bar → t.needle b n = s.needle b n)
      ∧ (∀ n, let q := s.needle m.bar n
          (¬ drawn n → t.needle m.bar n = q)
          ∧ (drawn n → c < q.thread → t.needle m.bar n = { q with
              thread := q.thread - c
              lowWarned := q.lowWarned || decide (q.thread - c ≤ reserve) })
          ∧ (out n → q.state = .retired → t.needle m.bar n = { q with thread := 0, lowWarned := true })
          ∧ (out n → q.state ≠ .retired → t.needle m.bar n = { q with
              state := .threadOut
              thread := 0
              misses := 0
              progress := 0
              countdown := none
              lowWarned := true }))
      ∧ ((∀ n, ¬ out n) → t.messages = s.messages.erase (.consumption m))
      ∧ (∀ n h, out n → m.panel = some h → t.messages = s.messages.erase (.consumption m)
            ++ [.notice ⟨m.bar, h, DefectKind.threadOut.bit, s.yAt m.bar h⟩])
      ∧ (s.event .threadOut).RaisedFor (t.event .threadOut) m.bar out
      ∧ (s.event .threadLow).RaisedFor (t.event .threadLow) m.bar (fun n => drawn n
          ∧ (s.needle m.bar n).lowWarned = false ∧ ((s.needle m.bar n).thread : Int) - c ≤ reserve)
      ∧ ∀ e, e ≠ .threadLow → e ≠ .threadOut → t.event e = s.event e

/-- The requests that name one needle: NDREARM takes BROKEN and PROBATION to a fresh probation, NDRESTORE brings
RETIRED back, NDRETIRE retires from any state, each answered with the record after it; NDLOAD records a new spool. -/
def Obligations.NeedleRequestsAct : Prop :=
  ∀ (s : State) (tag : Byte) (b : Bar) (n : NeedleNo), s.takesFrames →
    let q := s.needle b n
    let named := [barNumber b, BitVec.ofNat 8 n.val]
    let becomes (kind : Byte) (r : NeedleRecord) (bytes : List Byte) : Host.Outcome State Fault Refusal :=
      .next { s with
        needles := s.needles.set b ((s.needles.get b).set n r)
        link := s.link.answered kind tag .ok bytes }
    let reported (kind : Byte) (r : NeedleRecord) := becomes kind r (r.form b n)
    let rearmed : NeedleRecord :=
      { q with state := .probation, progress := 0, retries := s.params.retries, countdown := none }
    let restored : NeedleRecord := { q with
      state := if 0 < q.thread then .ready else .threadOut
      breaks := 0
      misses := 0
      progress := 0
      retries := 0
      countdown := none }
    let retired : NeedleRecord := { q with state := .retired, countdown := none, misses := 0, progress := 0 }
    (q.state = .broken ∨ q.state = .probation → exec (.ndrearm tag named) s = reported 0x40 rearmed)
    ∧ (q.state ≠ .broken → q.state ≠ .probation →
        exec (.ndrearm tag named) s = .next (s.answered 0x40 tag .state []))
    ∧ (q.state = .retired → exec (.ndrestore tag named) s = reported 0x41 restored)
    ∧ (q.state ≠ .retired → exec (.ndrestore tag named) s = .next (s.answered 0x41 tag .state []))
    ∧ (q.state ≠ .retired → exec (.ndretire tag named) s = reported 0x42 retired)
    ∧ (q.state = .retired → exec (.ndretire tag named) s = .next (s.answered 0x42 tag .ok (q.form b n)))
    ∧ (∀ len : Nat, 1 ≤ len → len ≤ 2000000000 →
        let loaded (r : NeedleRecord) : NeedleRecord :=
          if r.state = .threadOut then
            { r with thread := len, lowWarned := false, state := .ready, misses := 0, progress := 0 }
          else { r with thread := len, lowWarned := false }
        exec (.ndload tag (named ++ bytesOf 4 len)) s
          = becomes 0x43 (loaded q) [if q.state = .threadOut then 1 else 0]
        ∧ ∃ needles, exec (.ndload tag ([barNumber b, 0xFF] ++ bytesOf 4 len)) s = .next { s with
              needles := needles
              link := s.link.answered 0x43 tag .ok [BitVec.ofNat 8
                ((List.finRange 40).countP (fun m => (s.needle b m).state = .threadOut))] }
            ∧ ∀ b' m, (needles.get b')[m] = if b' = b then loaded (s.needle b m) else s.needle b' m)
    ∧ (∀ x y : Byte, (2 < x.toNat ∨ 39 < y.toNat) →
        exec (.ndrearm tag [x, y]) s = .next (s.answered 0x40 tag .range [])
        ∧ exec (.ndrestore tag [x, y]) s = .next (s.answered 0x41 tag .range [])
        ∧ exec (.ndretire tag [x, y]) s = .next (s.answered 0x42 tag .range []))
    ∧ (∀ (x y : Byte) (len : Nat), len < 2 ^ 32 →
        (2 < x.toNat ∨ 39 < y.toNat ∧ y ≠ 0xFF ∨ len = 0 ∨ 2000000000 < len) →
        exec (.ndload tag ([x, y] ++ bytesOf 4 len)) s = .next (s.answered 0x43 tag .range []))
    ∧ ∀ p, (p.length ≠ 2 → exec (.ndrearm tag p) s = .next (s.answered 0x40 tag .length [])
          ∧ exec (.ndrestore tag p) s = .next (s.answered 0x41 tag .length [])
          ∧ exec (.ndretire tag p) s = .next (s.answered 0x42 tag .length []))
        ∧ (p.length ≠ 6 → exec (.ndload tag p) s = .next (s.answered 0x43 tag .length []))

/-- BINFO reports one bar's context in 92 bytes; NDINFO one needle's record in 15 bytes, or with needle 0xFF the
states of a bar's 40 needles and its scan record in 52 bytes; none changes anything. -/
def Obligations.BarAndNeedleReports : Prop :=
  ∀ (s : State) (tag : Byte), s.takesFrames →
    ((∀ b : Bar, (s.bars.get b).place.stack.length ≤ 4 →
      let c := (s.bars.get b).control
      let q := (s.bars.get b).place
      let frame (f : SentFrame) : List Byte := bytesOf 5 f.needles.toNat
        ++ (match f.panel with
          | some h => ([1] : List Byte) ++ bytesOf 4 h.toNat
          | none => [0, 0, 0, 0, 0])
      ∃ bytes, exec (.binfo tag [barNumber b]) s = .next (s.answered 0x34 tag .ok bytes) ∧ bytes.length = 92
        ∧ bytes = [barNumber b] ++ s.summaryForm b
          ++ ([if c.rehearsal then 1 else 0,
              match c.pendingRehearsal with
              | none => 0
              | some true => 1
              | some false => 2] : List Byte)
          ++ bytesOf 5 c.override.toNat
          ++ (match c.pendingOverride with
            | some o => ([1] : List Byte) ++ bytesOf 5 o.toNat
            | none => [0, 0, 0, 0, 0, 0])
          ++ [(match q.outcome with
            | .untaken => 0
            | .stopped => 1
            | .gap => 2
            | .idle => 3
            | .held => 4
            | .placed => 5
            | .overrun => 6
            | .finished => 7
            | .tie => 8
            | .postTie => 9 : Byte)]
          ++ (match q.current with
            | some k => ([if k.presence = .inside then 1 else 2] : List Byte) ++ bytesOf 4 k.head.toNat
            | none => [0, 0, 0, 0, 0])
          ++ ([if q.stoppedInPanel then 1 else 0] : List Byte) ++ bytesOf 4 (BitVec.ofInt 32 q.lastY).toNat
          ++ (match q.cursor with
            | some k => ([1, BitVec.ofNat 8 (k.pattern.val + 1), BitVec.ofNat 8 k.page.val,
                BitVec.ofNat 8 k.index.val] : List Byte)
            | none => [0, 0, 0, 0])
          ++ bytesOf 4 (BitVec.ofInt 32 q.ys).toNat ++ bytesOf 4 (BitVec.ofInt 32 q.ps).toNat
          ++ ([BitVec.ofNat 8 q.lockCount,
              match q.tail with
              | .outside => 0xFF
              | .tie n => BitVec.ofNat 8 n,
              if q.finished then 1 else 0, BitVec.ofNat 8 q.stack.length] : List Byte)
          ++ q.stack.reverse.flatMap (fun f => [BitVec.ofNat 8 f.returnPage.val, BitVec.ofNat 8 f.returnIndex.val,
              BitVec.ofNat 8 f.remaining, BitVec.ofNat 8 (f.motif.val + 1)])
          ++ List.replicate (16 - 4 * q.stack.length) 0
          ++ bytesOf 4 (BitVec.ofInt 32 q.p).toNat ++ bytesOf 2 (BitVec.ofInt 16 q.x).toNat
          ++ bytesOf 5 q.engaged.toNat ++ frame q.previous
          ++ (match c.transfer with
            | some f => ([1] : List Byte) ++ frame f
            | none => [0, 0, 0, 0, 0, 0, 0, 0, 0, 0, 0]))
    ∧ (∀ x : Byte, 2 < x.toNat → exec (.binfo tag [x]) s = .next (s.answered 0x34 tag .range []))
    ∧ ∀ p, p.length ≠ 1 → exec (.binfo tag p) s = .next (s.answered 0x34 tag .length []))
    ∧ ((∀ (b : Bar) (n : NeedleNo), exec (.ndinfo tag [barNumber b, BitVec.ofNat 8 n.val]) s
      = .next (s.answered 0x44 tag .ok ((s.needle b n).form b n)))
    ∧ (∀ b : Bar, exec (.ndinfoBar tag (barNumber b)) s = .next (s.answered 0x44 tag .ok
        ([barNumber b]
          ++ (List.finRange 40).map (fun n => match (s.needle b n).state with
            | .ready => 0
            | .broken => 1
            | .probation => 2
            | .retired => 3
            | .threadOut => (4 : Byte))
          ++ (match (s.scans.get b).scan with
            | some scan => ([1] : List Byte) ++ bytesOf 5 scan.expected.toNat
                ++ (match scan.panel with
                  | some h => ([1] : List Byte) ++ bytesOf 4 h.toNat
                  | none => [0, 0, 0, 0, 0])
            | none => List.replicate 11 0))))
    ∧ (∀ x : Byte, 2 < x.toNat → exec (.ndinfoBar tag x) s = .next (s.answered 0x44 tag .range []))
    ∧ (∀ x y : Byte, (2 < x.toNat ∨ 39 < y.toNat ∧ y ≠ 0xFF) →
        exec (.ndinfo tag [x, y]) s = .next (s.answered 0x44 tag .range []))
    ∧ ∀ p, p.length ≠ 2 → exec (.ndinfo tag p) s = .next (s.answered 0x44 tag .length []))

/-! ### Events and attention lines -/

/-- EVACK clears the flags and counts of the sticky sources named, keeps their details, and answers the flags before
and the counts recorded; MASKSET and MASKCLEAR change one mask by a set of sources, and the lines follow at once. -/
def Obligations.EventRequestsAct : Prop :=
  ∀ (s : State) (tag : Byte), s.takesFrames →
    (∀ named : SourceSet, ∃ (flags : SourceSet) (events : Vector EventSlot 18),
      (∀ e : Sticky, flags.getLsbD e.number = true ↔ 0 < (s.event e).count)
      ∧ flags.getLsbD 3 = false ∧ flags.getLsbD 4 = false ∧ flags.getLsbD 5 = false
      ∧ (∀ e : Sticky, events[e.index] = if named.getLsbD e.number then ⟨0, (s.event e).detail⟩ else s.event e)
      ∧ exec (.evack tag (bytesOf 3 named.toNat)) s = .next { s with
          events := events
          link := s.link.answered 0x53 tag .ok (bytesOf 3 flags.toNat
            ++ Sticky.all.map (fun e => if named.getLsbD e.number then BitVec.ofNat 8 (s.event e).count else 0)) })
    ∧ (∀ (n : Fin 4) (set : SourceSet),
        let payload := [BitVec.ofNat 8 n.val] ++ bytesOf 3 set.toNat
        let masked (mask : SourceSet) : State := { s with masks := s.masks.set n mask }
        let answered (kind : Byte) (mask : SourceSet) (lines : Byte) : Host.Outcome State Fault Refusal :=
          .next ((masked mask).answered kind tag .ok (bytesOf 3 mask.toNat ++ [lines]))
        (∃ lines, (masked (s.masks[n] ||| set)).LinesAre lines
          ∧ exec (.maskset tag payload) s = answered 0x54 (s.masks[n] ||| set) lines)
        ∧ ∃ lines, (masked (s.masks[n] &&& ~~~ set)).LinesAre lines
          ∧ exec (.maskclear tag payload) s = answered 0x55 (s.masks[n] &&& ~~~ set) lines)
    ∧ (∀ (x : Byte) (v : Nat), v < 16777216 → (4 ≤ x.toNat ∨ 2097152 ≤ v) →
        exec (.maskset tag ([x] ++ bytesOf 3 v)) s = .next (s.answered 0x54 tag .range [])
        ∧ exec (.maskclear tag ([x] ++ bytesOf 3 v)) s = .next (s.answered 0x55 tag .range []))
    ∧ (∀ v : Nat, 2097152 ≤ v → v < 16777216 →
        exec (.evack tag (bytesOf 3 v)) s = .next (s.answered 0x53 tag .range []))
    ∧ ∀ p, (p.length ≠ 3 → exec (.evack tag p) s = .next (s.answered 0x53 tag .length []))
        ∧ (p.length ≠ 4 → exec (.maskset tag p) s = .next (s.answered 0x54 tag .length [])
          ∧ exec (.maskclear tag p) s = .next (s.answered 0x55 tag .length []))

/-- EVREAD reports the sticky flags, the level states, the detail and the count of each sticky source, the masks and
the lines in 91 bytes, and changes nothing; and a line is driven high exactly while a source of its mask is set. The
sticky sources have the numbers of the manual. -/
def Obligations.EventsReported : Prop :=
  Sticky.all = [.restarted, .linkErr, .encoderFault, .starve, .panelRetired, .cutMissed, .cutStray, .panelDefect,
    .defectStop, .barHalted, .selectFault, .selectLate, .scanLate, .needleBroken, .needleRetired, .probationPassed,
    .threadLow, .threadOut]
  ∧ Sticky.all.map Sticky.number = [0, 1, 2, 6, 7, 8, 9, 10, 11, 12, 13, 14, 15, 16, 17, 18, 19, 20]
  ∧ ∀ (s : State) (tag : Byte), s.takesFrames →
    (∃ (flags levels : SourceSet) (lines : Byte) (bytes : List Byte),
      (∀ e : Sticky, flags.getLsbD e.number = true ↔ 0 < (s.event e).count)
      ∧ flags.getLsbD 3 = false ∧ flags.getLsbD 4 = false ∧ flags.getLsbD 5 = false
      ∧ (∀ e : Sticky, levels.getLsbD e.number = false)
      ∧ levels.getLsbD 3 = s.inputs.freeze
      ∧ (levels.getLsbD 4 = true ↔ ∃ b, s.inputs.driveFault.get b = true)
      ∧ (levels.getLsbD 5 = true ↔ s.table.records.length ≤ s.params.roomMark)
      ∧ s.LinesAre lines
      ∧ exec (.evread tag []) s = .next (s.answered 0x52 tag .ok bytes) ∧ bytes.length = 91
      ∧ bytes = bytesOf 3 flags.toNat ++ bytesOf 3 levels.toNat
        ++ Sticky.all.flatMap (fun e =>
          (match (s.event e).detail with
            | none => ([0, 0, 0] : List Byte)
            | some (.restart .power) => [1, 0, 0]
            | some (.restart .pin) => [1, 0, 1]
            | some (.linkError .check) => [1, 0, 0]
            | some (.linkError .truncated) => [1, 0, 1]
            | some (.linkError .overlength) => [1, 0, 2]
            | some (.tag t) => [1] ++ bytesOf 2 t.toNat
            | some (.bar b) => [1, barNumber b, 0xFF]
            | some (.needle b n) => [1, barNumber b, BitVec.ofNat 8 n.val])
            ++ [BitVec.ofNat 8 (s.event e).count])
        ++ bytesOf 3 s.masks[0].toNat ++ bytesOf 3 s.masks[1].toNat ++ bytesOf 3 s.masks[2].toNat
        ++ bytesOf 3 s.masks[3].toNat ++ [lines])
    ∧ (∀ p, p ≠ [] → exec (.evread tag p) s = .next (s.answered 0x52 tag .length []))
    ∧ ∀ n, s.attentionLine n = true ↔ s.Asserts n

/-! ### Configuration -/

/-- CFWRITE is refused with LENGTH, with RANGE for an id outside 1..32, with BUSY for a geometry parameter while the line
is not at rest, and with RANGE for any other value that the parameter's range and cross-checks do not allow, in that
order; else it stores the value and answers the id and the value. A write of STARVE_DIST re-evaluates the starvation
state, one of MISS_LIMIT or BREAK_LIMIT zeroes the miss and break counts. -/
def Obligations.ParameterWritten : Prop :=
  ∀ (s : State) (tag : Byte), s.takesFrames →
    (∀ (id : Nat) (v : BitVec 32), 1 ≤ id → id ≤ 32 →
      let asked := exec (.cfwrite tag (BitVec.ofNat 8 id :: bytesOf 4 v.toNat)) s
      let admitted : Prop := s.params.Admits (fun b => (s.bars.get b).place.x) id v.toInt
      (id ≤ 8 → ¬ s.Resting → asked = .next (s.answered 0x50 tag .busy []))
      ∧ (8 < id ∨ s.Resting → ¬ admitted → asked = .next (s.answered 0x50 tag .range []))
      ∧ (8 < id ∨ s.Resting → admitted → ∃ t, asked = .next t
          ∧ t = { s with
              params := t.params
              table := t.table
              needles := t.needles
              link := s.link.answered 0x50 tag .ok (BitVec.ofNat 8 id :: bytesOf 4 v.toNat) }
          ∧ t.params.values = s.params.values.set (id - 1) v.toInt
          ∧ t.table.records = s.table.records
          ∧ (id ≠ 29 → t.table = s.table)
          ∧ (id = 29 → (t.table.starving = true ↔ Starves t.params s.w s.table.records))
          ∧ (id ≠ 7 → id ≠ 8 → t.needles = s.needles)
          ∧ (id = 7 ∨ id = 8 → ∀ b n, t.needle b n = { s.needle b n with misses := 0, breaks := 0 })))
    ∧ (∀ (id : Byte) (value : List Byte), (id = 0 ∨ 32 < id.toNat) → value.length = 4 →
        exec (.cfwrite tag (id :: value)) s = .next (s.answered 0x50 tag .range []))
    ∧ ∀ payload : List Byte, payload.length ≠ 5 →
        exec (.cfwrite tag payload) s = .next (s.answered 0x50 tag .length [])

/-- The CFWRITE rows of their own: STARVE_DIST and ROOM_MARK at any time, MISS_LIMIT and BREAK_LIMIT at rest, each
with the effect of its write. -/
def Obligations.OwnRowsWritten : Prop :=
  ∀ (s : State) (tag : Byte) (v : BitVec 32), s.takesFrames →
    let answered (id : Byte) := s.link.answered 0x50 tag .ok (id :: bytesOf 4 v.toNat)
    let refused (st : Status) : Host.Outcome State Fault Refusal := .next (s.answered 0x50 tag st [])
    let zeroed (needles : PerBar (Vector NeedleRecord 40)) : Prop :=
      ∀ (b : Bar) (n : NeedleNo), (needles.get b)[n] = { s.needle b n with misses := 0, breaks := 0 }
    (0 ≤ v.toInt → v.toInt ≤ 65535 → ∃ starving : Bool,
      (starving = true ↔ Starves { s.params with starveDist := v.toNat } s.w s.table.records)
      ∧ exec (.cfwriteStarveDist tag v) s = .next { s with
          params := { s.params with starveDist := v.toNat }
          table := { s.table with starving := starving }
          link := answered 29 })
    ∧ (v.toInt < 0 ∨ 65535 < v.toInt → exec (.cfwriteStarveDist tag v) s = refused .range)
    ∧ (0 ≤ v.toInt → v.toInt ≤ 15 → ∃ t, exec (.cfwriteRoomMark tag v) s = .next t
        ∧ t = { s with params := { s.params with roomMark := v.toNat }, link := answered 30 }
        ∧ (t.room = true ↔ s.table.records.length ≤ v.toNat))
    ∧ (v.toInt < 0 ∨ 15 < v.toInt → exec (.cfwriteRoomMark tag v) s = refused .range)
    ∧ (¬ s.Resting → exec (.cfwriteMissLimit tag v) s = refused .busy
        ∧ exec (.cfwriteBreakLimit tag v) s = refused .busy)
    ∧ (s.Resting → v.toInt < 1 ∨ 15 < v.toInt → exec (.cfwriteMissLimit tag v) s = refused .range
        ∧ exec (.cfwriteBreakLimit tag v) s = refused .range)
    ∧ (s.Resting → 1 ≤ v.toInt → v.toInt ≤ 15 → ∃ needles, zeroed needles
        ∧ exec (.cfwriteMissLimit tag v) s = .next { s with
            params := { s.params with missLimit := v.toNat }
            needles := needles
            link := answered 7 }
        ∧ exec (.cfwriteBreakLimit tag v) s = .next { s with
            params := { s.params with breakLimit := v.toNat }
            needles := needles
            link := answered 8 })

/-- CFREAD reports one parameter in 5 bytes, or with id 0 all 32 in 129 bytes, taken at one moment, and changes
nothing; another length is answered LENGTH and an id above 32 RANGE. That a request with no transaction open begins one
of its own is the model's choice (log 8). -/
def Obligations.ParametersReported : Prop :=
  ∀ (s : State) (tag : Byte), s.takesFrames →
    (∀ id : Nat, 1 ≤ id → id ≤ 32 → exec (.cfread tag [BitVec.ofNat 8 id]) s = .next (s.answered 0x51 tag .ok
      (BitVec.ofNat 8 id :: bytesOf 4 (BitVec.ofInt 32 (s.params.values.getD (id - 1) 0)).toNat)))
    ∧ (∃ bytes, exec (.cfreadAll tag) s = .next (s.answered 0x51 tag .ok bytes) ∧ bytes.length = 129
        ∧ bytes = 32 :: s.params.values.flatMap (fun v => bytesOf 4 (BitVec.ofInt 32 v).toNat))
    ∧ (∀ x : Byte, 32 < x.toNat → exec (.cfread tag [x]) s = .next (s.answered 0x51 tag .range []))
    ∧ ∀ p, p.length ≠ 1 → exec (.cfread tag p) s = .next (s.answered 0x51 tag .length [])

/-! ### The line link -/

/-- NOP is accepted in every state of the part, changes nothing, and is answered with its kind and tag echoed, status
OK and an empty payload; with any other payload it is answered LENGTH. That a request with no transaction open begins
one of its own is the model's choice (log 8). -/
def Obligations.NopAnswered : Prop :=
  ∀ (s : State) (tag : Byte), s.takesFrames →
    exec (.nop tag []) s = .next (s.answered 0x00 tag .ok [])
    ∧ ∀ p, p ≠ [] → exec (.nop tag p) s = .next (s.answered 0x00 tag .length [])

/-- The fall of LK_SEL takes the frame in the slot for output and leaves the idle response; LK_DO then carries the bytes
of that frame (kind, tag, status code, payload length, payload and check byte), each most significant bit first, and 0x00
past its end: the idle response is sent as 00 00 00 00 00, and the frame error response as 00 00 13 00 68. LK_DO is not
driven outside a transaction or in an ignored one, the last of which is the model's reading (log 30). A transaction that
ends with a truncated, overlong or miscounted frame leaves the frame error response, raises LINK_ERR with the kind, and
latches LINK on every bar while LINK_POLICY is STOP; an empty one leaves the slot; the bits of an incomplete last byte are
discarded; an ignored transaction does nothing; and in one whose frame has executed whatever is received is fill, LK_SEL
alone rising (log 8, 9, 10). At its end LK_DO is not driven. -/
def Obligations.TransactionsBeginAndEnd : Prop :=
  ∀ (s : State) (odd : List Bool), s.inputs.operates = true → odd.length < 8 →
    let output := if s.link.phase = .opened then s.link.output else s.link.slot
    let ended (bytes : List Byte) := exec (.frameError (bitsOf bytes ++ odd)) s
    let fails (bytes : List Byte) (e : LinkError) : Prop := ended bytes = .next { s with
      link := ⟨⟨0, 0, .frameError, []⟩, output, .idle⟩
      events := s.events.set 1 ⟨min ((s.event .linkErr).count + 1) 255, some (.linkError e)⟩
      bars := if s.params.linkStop then s.bars.map (fun c =>
          { c with control := { c.control with latched := { c.control.latched with link := true } } })
        else s.bars }
    let code (st : Status) : Byte := match st with
      | .ok => 0x00
      | .busy => 0x01
      | .full => 0x02
      | .dupTag => 0x03
      | .noSuch => 0x04
      | .range => 0x05
      | .inUse => 0x06
      | .state => 0x07
      | .pageOwned => 0x08
      | .badEntry => 0x09
      | .badLink => 0x0A
      | .badCall => 0x0B
      | .badLoop => 0x0C
      | .order => 0x0D
      | .headPassed => 0x0E
      | .tooFar => 0x0F
      | .halted => 0x10
      | .unknown => 0x11
      | .length => 0x12
      | .frameError => 0x13
    let carries (bytes : List Byte) : Prop := ∀ n, s.lineOut n = some ((bytes.getD (n / 8) 0).getLsbD (7 - n % 8))
    exec .linkTransactionStart s = .next { s with link := ⟨⟨0, 0, .ok, []⟩, s.link.slot, .opened⟩ }
    ∧ (s.link.phase = .opened ∨ s.link.phase = .answered → ∀ (kind tag : Byte) (st : Status) (payload : List Byte),
        s.link.output = ⟨kind, tag, st, payload⟩ →
        let body := [kind, tag, code st, BitVec.ofNat 8 payload.length] ++ payload
        carries (body ++ [crc8 body])
          ∧ (kind = 0 → tag = 0 → st = .ok → payload = [] → carries [0x00, 0x00, 0x00, 0x00, 0x00])
          ∧ (kind = 0 → tag = 0 → st = .frameError → payload = [] → carries [0x00, 0x00, 0x13, 0x00, 0x68]))
    ∧ (s.link.phase = .idle ∨ s.link.phase = .ignored → ∀ n, s.lineOut n = none)
    ∧ (s.link.phase = .ignored ∨ s.link.phase = .answered → ∀ bytes,
        ended bytes = .next { s with link := { s.link with phase := .idle } })
    ∧ (∀ bytes, ∃ t, ended bytes = .next t ∧ t.link.phase = .idle ∧ ∀ n, t.lineOut n = none)
    ∧ (s.link.phase = .idle ∨ s.link.phase = .opened →
        ended [] = .next { s with
          link := ⟨if s.link.phase = .opened then s.link.slot else ⟨0, 0, .ok, []⟩, output, .idle⟩ }
        ∧ (∀ x, fails [x] .truncated) ∧ (∀ x y, fails [x, y] .truncated)
        ∧ (∀ (x y n : Byte) (rest : List Byte), 240 < n.toNat → fails (x :: y :: n :: rest) .overlength)
        ∧ (∀ (x y n : Byte) (rest : List Byte), n.toNat ≤ 240 → rest.length ≤ n.toNat →
            fails (x :: y :: n :: rest) .truncated)
        ∧ (∀ (x y n check : Byte) (payload fill : List Byte), n.toNat ≤ 240 → payload.length = n.toNat →
            s.params.linkCheck = true → check ≠ crc8 (x :: y :: n :: payload) →
            fails (x :: y :: n :: payload ++ check :: fill) .check))

/-- A transaction that receives an intact frame, none having executed in it before, carries out the request the frame
stands for, with the transaction ended besides (log 9); bytes after the frame are fill, and the bits of an incomplete last
byte are discarded; and a kind outside the catalogue is answered UNKNOWN. -/
def Obligations.FramesCarryRequests : Prop :=
  ∀ (s : State) (kind tag check : Byte) (payload fill : List Byte) (odd : List Bool), s.takesFrames →
    payload.length ≤ 240 → odd.length < 8 →
    (s.params.linkCheck = true → check = crc8 ([kind, tag, BitVec.ofNat 8 payload.length] ++ payload)) →
    (s.link.phase ≠ .answered → ∃ t, exec (commandOf kind tag payload) s = .next t
      ∧ exec (.frameError (bitsOf ([kind, tag, BitVec.ofNat 8 payload.length] ++ payload ++ [check] ++ fill) ++ odd)) s
        = .next { t with link := { t.link with phase := .idle } })
    ∧ (kind.toNat ∉ catalogue →
        exec (.unknown kind tag payload) s = .next (s.answered kind tag .unknown []))

/-- LINECLEAR empties the table and releases its references, drops the pending cut and the last-retired slot, stops
every bar with REQUESTED and nothing staged, resets placement but for X, and abandons transfers and scans, the clocking of
a sensor chain running on to its end; it keeps W, patterns, needle records, parameters, events, masks and the retirement
number. That it keeps the messages in flight, a consumption notice and a scan request among them, is the model's reading
(log 26). -/
def Obligations.LineCleared : Prop :=
  ∀ (s : State) (tag : Byte), s.takesFrames →
    exec (.lineclear tag []) s = .next { s with
      table := ⟨[], false⟩
      store := s.table.records.foldl Store.releaseRecord s.store
      cutter := ⟨.idle, none, none, s.cutter.retirements⟩
      bars := s.bars.map (fun c => {
        reference := ⟨none, .unclassified, 0⟩
        control := {
          run := .stopped
          pendingRun := none
          latched := ⟨false, false, false, false⟩
          requested := true
          override := c.control.override
          pendingOverride := none
          rehearsal := c.control.rehearsal
          pendingRehearsal := none
          transfer := none
          driveCommand := c.control.driveCommand }
        place := ⟨none, false, 0, none, 0, 0, 0, .outside, false, [], 0, c.place.x, 0, ⟨0, none⟩, .untaken⟩ })
      scans := s.scans.map (fun c => if c = .atRest then .atRest else .abandoned)
      link := s.link.answered 0x57 tag .ok [BitVec.ofNat 8 s.table.records.length] }
    ∧ (∀ t, exec (.lineclear tag []) s = .next t → ∀ b, t.scanOut b = s.scanOut b ∧ (t.scans.get b).scan = none)
    ∧ ∀ p, p ≠ [] → exec (.lineclear tag p) s = .next (s.answered 0x57 tag .length [])

/-! ### The headline results -/

/-- DECODE AND ENCODE AGREE: the frame of every request the outside can send, clocked bit by bit with whatever fill and
incomplete last byte after it, comes back as that request, with the frame check on or off. The frame of a request is the
code of its rule, the tag, the payload length, the payload and the check byte: the CRC-8 of the bytes before it, which is
0 for no bytes, each further byte being folded in by exclusive-or and eight steps of the division by 0x07. A field of
several bytes goes most significant byte first. -/
def Obligations.FramesDecodeToTheirRequests : Prop :=
  (∀ (i : Instr) (linkCheck : Bool) (bytes fill : List Byte) (odd : List Bool), i.wf = true → encode i = some bytes →
    odd.length < 8 → decodeFrame linkCheck (bitsOf (bytes ++ fill) ++ odd) = some i)
  ∧ (let divide (r : Byte) : Byte := if r.getLsbD 7 = true then (r <<< 1) ^^^ 0x07 else r <<< 1
    crc8 [] = 0 ∧ ∀ (bytes : List Byte) (b : Byte), crc8 (bytes ++ [b])
      = divide (divide (divide (divide (divide (divide (divide (divide (crc8 bytes ^^^ b)))))))))
  ∧ (∀ k n : Nat, (bytesOf k n).length = k
      ∧ ∀ j : Nat, j < k → (bytesOf k n).getD j 0 = BitVec.ofNat 8 (n / 256 ^ (k - 1 - j)))
  ∧ (let framed (i : Instr) (code tag : Byte) (payload : List Byte) : Prop :=
      let body := [code, tag, BitVec.ofNat 8 payload.length] ++ payload
      encode i = some (body ++ [crc8 body])
    ∀ tag : Byte,
      (∀ p : List Byte, p.length ≤ 240 →
        framed (.nop tag p) 0x00 tag p ∧ framed (.ptopen tag p) 0x10 tag p ∧ framed (.ptwrite tag p) 0x11 tag p
        ∧ framed (.ptclose tag p) 0x12 tag p ∧ framed (.ptreopen tag p) 0x13 tag p
        ∧ framed (.ptdelete tag p) 0x14 tag p ∧ framed (.ptinfo tag p) 0x15 tag p ∧ framed (.ptread tag p) 0x16 tag p
        ∧ framed (.nswrite tag p) 0x18 tag p ∧ framed (.nsinfo tag p) 0x19 tag p ∧ framed (.pnadmit tag p) 0x20 tag p
        ∧ framed (.pnabort tag p) 0x21 tag p ∧ framed (.pninfo tag p) 0x22 tag p ∧ framed (.pnlast tag p) 0x23 tag p
        ∧ framed (.brun tag p) 0x30 tag p ∧ framed (.bstop tag p) 0x31 tag p ∧ framed (.boverride tag p) 0x32 tag p
        ∧ framed (.brehearse tag p) 0x33 tag p ∧ framed (.binfo tag p) 0x34 tag p ∧ framed (.ndrearm tag p) 0x40 tag p
        ∧ framed (.ndrestore tag p) 0x41 tag p ∧ framed (.ndretire tag p) 0x42 tag p
        ∧ framed (.ndload tag p) 0x43 tag p ∧ framed (.ndinfo tag p) 0x44 tag p ∧ framed (.cfwrite tag p) 0x50 tag p
        ∧ framed (.cfread tag p) 0x51 tag p ∧ framed (.evread tag p) 0x52 tag p ∧ framed (.evack tag p) 0x53 tag p
        ∧ framed (.maskset tag p) 0x54 tag p ∧ framed (.maskclear tag p) 0x55 tag p
        ∧ framed (.posread tag p) 0x56 tag p ∧ framed (.lineclear tag p) 0x57 tag p
        ∧ ∀ kind : Byte, kind.toNat ∉ catalogue → framed (.unknown kind tag p) kind tag p)
      ∧ framed (.ptinfoPageMap tag) 0x15 tag [0] ∧ framed (.pninfoTable tag) 0x22 tag [0, 0]
      ∧ (∀ bar : Byte, framed (.ndinfoBar tag bar) 0x44 tag [bar, 0xFF]) ∧ framed (.cfreadAll tag) 0x51 tag [0]
      ∧ ∀ v : BitVec 32,
        let bytes : List Byte := [v.extractLsb' 24 8, v.extractLsb' 16 8, v.extractLsb' 8 8, v.extractLsb' 0 8]
        framed (.cfwriteStarveDist tag v) 0x50 tag (29 :: bytes) ∧ framed (.cfwriteRoomMark tag v) 0x50 tag (30 :: bytes)
        ∧ framed (.cfwriteMissLimit tag v) 0x50 tag (7 :: bytes)
        ∧ framed (.cfwriteBreakLimit tag v) 0x50 tag (8 :: bytes))

/-- AN INVARIANT THAT EVERY STEP KEEPS, for the table, the cutter sequence and the events: at most 16 records with
distinct tags and consistent defects, a pending cut always of the record at the front, counts of at most 255 and
details of their source's form; and, while every live record lies within 2^29 counts of the web, so that distances are
exact, no record begins before the end of one ahead of it, no two have the same head, and no web position lies in two. -/
def Obligations.StepKeepsTableCutterEvents : Prop :=
  ∀ s t : State, s.Wf → step s = .next t → t.table.Wf ∧ t.CutterWf ∧ (∀ e, (t.event e).Wf e)
    ∧ (s.Exact → s.table.Ordered → t.table.Ordered ∧ (t.table.records.map (·.head)).Nodup
      ∧ ∀ (i j : Nat) r q (x : Word), t.table.records[i]? = some r → t.table.records[j]? = some q →
          0 ≤ webDist x r.head → webDist x r.head < r.length → 0 ≤ webDist x q.head → webDist x q.head < q.length →
          i = j)

/-- AN INVARIANT THAT EVERY STEP KEEPS, for the parameters and the needle records: every parameter in its range and
order, every needle's counts below the limits in force and its thread, progress and countdown fitting its state. -/
def Obligations.StepKeepsParametersNeedles : Prop :=
  ∀ s t : State, s.Wf → step s = .next t → t.params.Wf ∧ ∀ b n, (t.needle b n).Wf t.params

/-- AN INVARIANT THAT EVERY STEP KEEPS, for the pattern store and the bar contexts: free pages EMPTY, OPEN patterns
unused, set 0 empty; every use count and reference count the number of the references that the live records and the
walked paths of the CLOSED patterns hold, and every CLOSED pattern's closing walk as its closing found it; placement
fields in their ranges and X within the travel limits. -/
def Obligations.StepKeepsStoreBars : Prop :=
  ∀ s t : State, s.Wf → step s = .next t → t.store.Wf ∧ t.store.Counted t.table.records
    ∧ ∀ b, (t.bars.get b).Wf t.params b

/-- The state after power-on meets everything the rules say always holds, and its table is in order. -/
def Obligations.ResetIsWellFormed : Prop := State.reset.Wf ∧ State.reset.table.Ordered

/-! ### The cursor walk -/

/-- A placement stroke outside the tail walks the cursor from the place it stands on, one step for each entry it leaves,
until it stands on a covering segment, a step finishes the pattern, or 8 steps have been taken. On a covering segment the
stroke is placed there as if it had begun there; with the pattern finished it is FINISHED; after 8 steps with neither it
is OVERRUN and notes SEG_OVERRUN. X and P are held on the last two, and the place stays as the last step left it.
MOTIF_DEPTH is noted when a step passed over a CALL. That a walk whose 8th step finishes is FINISHED, and notes no
SEG_OVERRUN, is the model's choice (log 28). -/
def Obligations.CursorWalkFollowsEntries : Prop :=
  ∀ (s : State) (b : Bar) (r : PanelRecord) (own : PatternId) (path : List Place) (z : Place),
    s.StrokesAlone b → s.RunsNext b → s.ForwardNext b → 1 ≤ s.params.slMin → s.StandsIn b r →
    let q := (s.bars.get b).place
    let y := s.yAt b r.head
    (r.bars.get b).pattern = some own → q.tail = .outside → (r.tailMargin = 0 ∨ y < (r.length : Int) - r.tailMargin) →
    path.head? = some q → path.getLast? = some z → path.length ≤ 9 → s.store.Walks own y path →
    let deep : Prop := ∃ a ∈ path.dropLast, s.store.PassesOver a
    let held (o : StrokeOutcome) : Place := { z with
      lastY := max q.lastY y
      engaged := 0
      previous := ⟨0, some r.head⟩
      outcome := o }
    let notes (h : Word) (k : DefectKind) : Prop :=
      h = r.head ∧ (s.NotesPlacing b k ∨ k = .motifDepth ∧ deep) ∨ s.NotesLate b h k
    ∃ t, exec (.strokeEvent b) s = .next t
      ∧ (z.finished = true → (t.bars.get b).place = held .finished ∧ s.Sends t b (fun _ => False) notes)
      ∧ (z.finished = false → ¬ s.store.Covered y z → path.length = 9 → (t.bars.get b).place = held .overrun
          ∧ s.Sends t b (fun _ => False) (fun h k => notes h k ∨ h = r.head ∧ k = .segOverrun))
      ∧ (z.finished = false → s.store.Covered y z →
          ∃ t', exec (.strokeEvent b) (s.withPlace b z) = .next t' ∧ t.bars = t'.bars
            ∧ (t'.bars.get b).place.outcome = .placed
            ∧ s.Sends t b (fun _ => False)
                (fun h k => (s.withPlace b z).Notes t' b h k ∨ h = r.head ∧ k = .motifDepth ∧ deep))
end

