-- ==== Sys2Proof/Laws/State.lean ====
section
/-! SUPPORT. One lemma for each field of the state and each of the updates the commands are made of. -/

namespace Sys2Proof.Machine

variable (s : State)

/-! #### setBar -/

@[simp] theorem State.setBar_pending (b : Bar) (c : BarContext) : (s.setBar b c).pending = s.pending := rfl
@[simp] theorem State.setBar_inputs (b : Bar) (c : BarContext) : (s.setBar b c).inputs = s.inputs := rfl
@[simp] theorem State.setBar_w (b : Bar) (c : BarContext) : (s.setBar b c).w = s.w := rfl
@[simp] theorem State.setBar_params (b : Bar) (c : BarContext) : (s.setBar b c).params = s.params := rfl
@[simp] theorem State.setBar_store (b : Bar) (c : BarContext) : (s.setBar b c).store = s.store := rfl
@[simp] theorem State.setBar_table (b : Bar) (c : BarContext) : (s.setBar b c).table = s.table := rfl
@[simp] theorem State.setBar_cutter (b : Bar) (c : BarContext) : (s.setBar b c).cutter = s.cutter := rfl
@[simp] theorem State.setBar_bars (b : Bar) (c : BarContext) : (s.setBar b c).bars = s.bars.set b c := rfl
@[simp] theorem State.setBar_needles (b : Bar) (c : BarContext) : (s.setBar b c).needles = s.needles := rfl
@[simp] theorem State.setBar_scans (b : Bar) (c : BarContext) : (s.setBar b c).scans = s.scans := rfl
@[simp] theorem State.setBar_events (b : Bar) (c : BarContext) : (s.setBar b c).events = s.events := rfl
@[simp] theorem State.setBar_masks (b : Bar) (c : BarContext) : (s.setBar b c).masks = s.masks := rfl
@[simp] theorem State.setBar_link (b : Bar) (c : BarContext) : (s.setBar b c).link = s.link := rfl
@[simp] theorem State.setBar_messages (b : Bar) (c : BarContext) : (s.setBar b c).messages = s.messages := rfl
@[simp] theorem State.setBar_strokesDue (b : Bar) (c : BarContext) :
    (s.setBar b c).strokesDue = s.strokesDue := rfl
@[simp] theorem State.setBar_choices (b : Bar) (c : BarContext) : (s.setBar b c).choices = s.choices := rfl

/-! #### setControl -/

@[simp] theorem State.setControl_pending (b : Bar) (c : Control) :
    (s.setControl b c).pending = s.pending := rfl
@[simp] theorem State.setControl_inputs (b : Bar) (c : Control) : (s.setControl b c).inputs = s.inputs := rfl
@[simp] theorem State.setControl_w (b : Bar) (c : Control) : (s.setControl b c).w = s.w := rfl
@[simp] theorem State.setControl_params (b : Bar) (c : Control) : (s.setControl b c).params = s.params := rfl
@[simp] theorem State.setControl_store (b : Bar) (c : Control) : (s.setControl b c).store = s.store := rfl
@[simp] theorem State.setControl_table (b : Bar) (c : Control) : (s.setControl b c).table = s.table := rfl
@[simp] theorem State.setControl_cutter (b : Bar) (c : Control) : (s.setControl b c).cutter = s.cutter := rfl
@[simp] theorem State.setControl_bars (b : Bar) (c : Control) :
    (s.setControl b c).bars = s.bars.set b { s.bars.get b with control := c } := rfl
@[simp] theorem State.setControl_needles (b : Bar) (c : Control) :
    (s.setControl b c).needles = s.needles := rfl
@[simp] theorem State.setControl_scans (b : Bar) (c : Control) : (s.setControl b c).scans = s.scans := rfl
@[simp] theorem State.setControl_events (b : Bar) (c : Control) : (s.setControl b c).events = s.events := rfl
@[simp] theorem State.setControl_masks (b : Bar) (c : Control) : (s.setControl b c).masks = s.masks := rfl
@[simp] theorem State.setControl_link (b : Bar) (c : Control) : (s.setControl b c).link = s.link := rfl
@[simp] theorem State.setControl_messages (b : Bar) (c : Control) :
    (s.setControl b c).messages = s.messages := rfl
@[simp] theorem State.setControl_strokesDue (b : Bar) (c : Control) :
    (s.setControl b c).strokesDue = s.strokesDue := rfl
@[simp] theorem State.setControl_choices (b : Bar) (c : Control) :
    (s.setControl b c).choices = s.choices := rfl

/-! #### latch -/

@[simp] theorem State.latch_pending (b : Bar) (r : HaltReason) : (s.latch b r).pending = s.pending := rfl
@[simp] theorem State.latch_inputs (b : Bar) (r : HaltReason) : (s.latch b r).inputs = s.inputs := rfl
@[simp] theorem State.latch_w (b : Bar) (r : HaltReason) : (s.latch b r).w = s.w := rfl
@[simp] theorem State.latch_params (b : Bar) (r : HaltReason) : (s.latch b r).params = s.params := rfl
@[simp] theorem State.latch_store (b : Bar) (r : HaltReason) : (s.latch b r).store = s.store := rfl
@[simp] theorem State.latch_table (b : Bar) (r : HaltReason) : (s.latch b r).table = s.table := rfl
@[simp] theorem State.latch_cutter (b : Bar) (r : HaltReason) : (s.latch b r).cutter = s.cutter := rfl
@[simp] theorem State.latch_needles (b : Bar) (r : HaltReason) : (s.latch b r).needles = s.needles := rfl
@[simp] theorem State.latch_scans (b : Bar) (r : HaltReason) : (s.latch b r).scans = s.scans := rfl
@[simp] theorem State.latch_events (b : Bar) (r : HaltReason) : (s.latch b r).events = s.events := rfl
@[simp] theorem State.latch_masks (b : Bar) (r : HaltReason) : (s.latch b r).masks = s.masks := rfl
@[simp] theorem State.latch_link (b : Bar) (r : HaltReason) : (s.latch b r).link = s.link := rfl
@[simp] theorem State.latch_messages (b : Bar) (r : HaltReason) : (s.latch b r).messages = s.messages := rfl
@[simp] theorem State.latch_strokesDue (b : Bar) (r : HaltReason) :
    (s.latch b r).strokesDue = s.strokesDue := rfl
@[simp] theorem State.latch_choices (b : Bar) (r : HaltReason) : (s.latch b r).choices = s.choices := rfl

/-! #### setEvent -/

@[simp] theorem State.setEvent_pending (e : Sticky) (x : EventSlot) :
    (s.setEvent e x).pending = s.pending := rfl
@[simp] theorem State.setEvent_inputs (e : Sticky) (x : EventSlot) : (s.setEvent e x).inputs = s.inputs := rfl
@[simp] theorem State.setEvent_w (e : Sticky) (x : EventSlot) : (s.setEvent e x).w = s.w := rfl
@[simp] theorem State.setEvent_params (e : Sticky) (x : EventSlot) : (s.setEvent e x).params = s.params := rfl
@[simp] theorem State.setEvent_store (e : Sticky) (x : EventSlot) : (s.setEvent e x).store = s.store := rfl
@[simp] theorem State.setEvent_table (e : Sticky) (x : EventSlot) : (s.setEvent e x).table = s.table := rfl
@[simp] theorem State.setEvent_cutter (e : Sticky) (x : EventSlot) : (s.setEvent e x).cutter = s.cutter := rfl
@[simp] theorem State.setEvent_bars (e : Sticky) (x : EventSlot) : (s.setEvent e x).bars = s.bars := rfl
@[simp] theorem State.setEvent_needles (e : Sticky) (x : EventSlot) :
    (s.setEvent e x).needles = s.needles := rfl
@[simp] theorem State.setEvent_scans (e : Sticky) (x : EventSlot) : (s.setEvent e x).scans = s.scans := rfl
@[simp] theorem State.setEvent_events (e : Sticky) (x : EventSlot) :
    (s.setEvent e x).events = s.events.set e.index x := rfl
@[simp] theorem State.setEvent_masks (e : Sticky) (x : EventSlot) : (s.setEvent e x).masks = s.masks := rfl
@[simp] theorem State.setEvent_link (e : Sticky) (x : EventSlot) : (s.setEvent e x).link = s.link := rfl
@[simp] theorem State.setEvent_messages (e : Sticky) (x : EventSlot) :
    (s.setEvent e x).messages = s.messages := rfl
@[simp] theorem State.setEvent_strokesDue (e : Sticky) (x : EventSlot) :
    (s.setEvent e x).strokesDue = s.strokesDue := rfl
@[simp] theorem State.setEvent_choices (e : Sticky) (x : EventSlot) :
    (s.setEvent e x).choices = s.choices := rfl

/-! #### raise -/

@[simp] theorem State.raise_pending (e : Sticky) (d : Option Detail) :
    (s.raise e d).pending = s.pending := rfl
@[simp] theorem State.raise_inputs (e : Sticky) (d : Option Detail) : (s.raise e d).inputs = s.inputs := rfl
@[simp] theorem State.raise_w (e : Sticky) (d : Option Detail) : (s.raise e d).w = s.w := rfl
@[simp] theorem State.raise_params (e : Sticky) (d : Option Detail) : (s.raise e d).params = s.params := rfl
@[simp] theorem State.raise_store (e : Sticky) (d : Option Detail) : (s.raise e d).store = s.store := rfl
@[simp] theorem State.raise_table (e : Sticky) (d : Option Detail) : (s.raise e d).table = s.table := rfl
@[simp] theorem State.raise_cutter (e : Sticky) (d : Option Detail) : (s.raise e d).cutter = s.cutter := rfl
@[simp] theorem State.raise_bars (e : Sticky) (d : Option Detail) : (s.raise e d).bars = s.bars := rfl
@[simp] theorem State.raise_needles (e : Sticky) (d : Option Detail) :
    (s.raise e d).needles = s.needles := rfl
@[simp] theorem State.raise_scans (e : Sticky) (d : Option Detail) : (s.raise e d).scans = s.scans := rfl
@[simp] theorem State.raise_events (e : Sticky) (d : Option Detail) :
    (s.raise e d).events = s.events.set e.index ((s.event e).raise d) := rfl
@[simp] theorem State.raise_masks (e : Sticky) (d : Option Detail) : (s.raise e d).masks = s.masks := rfl
@[simp] theorem State.raise_link (e : Sticky) (d : Option Detail) : (s.raise e d).link = s.link := rfl
@[simp] theorem State.raise_messages (e : Sticky) (d : Option Detail) :
    (s.raise e d).messages = s.messages := rfl
@[simp] theorem State.raise_strokesDue (e : Sticky) (d : Option Detail) :
    (s.raise e d).strokesDue = s.strokesDue := rfl
@[simp] theorem State.raise_choices (e : Sticky) (d : Option Detail) :
    (s.raise e d).choices = s.choices := rfl

/-! #### setRecords -/

@[simp] theorem State.setRecords_pending (rs : List PanelRecord) :
    (s.setRecords rs).pending = s.pending := rfl
@[simp] theorem State.setRecords_inputs (rs : List PanelRecord) : (s.setRecords rs).inputs = s.inputs := rfl
@[simp] theorem State.setRecords_w (rs : List PanelRecord) : (s.setRecords rs).w = s.w := rfl
@[simp] theorem State.setRecords_params (rs : List PanelRecord) : (s.setRecords rs).params = s.params := rfl
@[simp] theorem State.setRecords_store (rs : List PanelRecord) : (s.setRecords rs).store = s.store := rfl
@[simp] theorem State.setRecords_table (rs : List PanelRecord) :
    (s.setRecords rs).table = { s.table with records := rs } := rfl
@[simp] theorem State.setRecords_cutter (rs : List PanelRecord) : (s.setRecords rs).cutter = s.cutter := rfl
@[simp] theorem State.setRecords_bars (rs : List PanelRecord) : (s.setRecords rs).bars = s.bars := rfl
@[simp] theorem State.setRecords_needles (rs : List PanelRecord) :
    (s.setRecords rs).needles = s.needles := rfl
@[simp] theorem State.setRecords_scans (rs : List PanelRecord) : (s.setRecords rs).scans = s.scans := rfl
@[simp] theorem State.setRecords_events (rs : List PanelRecord) : (s.setRecords rs).events = s.events := rfl
@[simp] theorem State.setRecords_masks (rs : List PanelRecord) : (s.setRecords rs).masks = s.masks := rfl
@[simp] theorem State.setRecords_link (rs : List PanelRecord) : (s.setRecords rs).link = s.link := rfl
@[simp] theorem State.setRecords_messages (rs : List PanelRecord) :
    (s.setRecords rs).messages = s.messages := rfl
@[simp] theorem State.setRecords_strokesDue (rs : List PanelRecord) :
    (s.setRecords rs).strokesDue = s.strokesDue := rfl
@[simp] theorem State.setRecords_choices (rs : List PanelRecord) :
    (s.setRecords rs).choices = s.choices := rfl

/-! #### updateRecord -/

@[simp] theorem State.updateRecord_pending (h : Word) (f : PanelRecord → PanelRecord) :
    (s.updateRecord h f).pending = s.pending := rfl
@[simp] theorem State.updateRecord_inputs (h : Word) (f : PanelRecord → PanelRecord) :
    (s.updateRecord h f).inputs = s.inputs := rfl
@[simp] theorem State.updateRecord_w (h : Word) (f : PanelRecord → PanelRecord) :
    (s.updateRecord h f).w = s.w := rfl
@[simp] theorem State.updateRecord_params (h : Word) (f : PanelRecord → PanelRecord) :
    (s.updateRecord h f).params = s.params := rfl
@[simp] theorem State.updateRecord_store (h : Word) (f : PanelRecord → PanelRecord) :
    (s.updateRecord h f).store = s.store := rfl
@[simp] theorem State.updateRecord_table (h : Word) (f : PanelRecord → PanelRecord) :
    (s.updateRecord h f).table = { s.table with records := updateHead h f s.table.records } := rfl
@[simp] theorem State.updateRecord_cutter (h : Word) (f : PanelRecord → PanelRecord) :
    (s.updateRecord h f).cutter = s.cutter := rfl
@[simp] theorem State.updateRecord_bars (h : Word) (f : PanelRecord → PanelRecord) :
    (s.updateRecord h f).bars = s.bars := rfl
@[simp] theorem State.updateRecord_needles (h : Word) (f : PanelRecord → PanelRecord) :
    (s.updateRecord h f).needles = s.needles := rfl
@[simp] theorem State.updateRecord_scans (h : Word) (f : PanelRecord → PanelRecord) :
    (s.updateRecord h f).scans = s.scans := rfl
@[simp] theorem State.updateRecord_events (h : Word) (f : PanelRecord → PanelRecord) :
    (s.updateRecord h f).events = s.events := rfl
@[simp] theorem State.updateRecord_masks (h : Word) (f : PanelRecord → PanelRecord) :
    (s.updateRecord h f).masks = s.masks := rfl
@[simp] theorem State.updateRecord_link (h : Word) (f : PanelRecord → PanelRecord) :
    (s.updateRecord h f).link = s.link := rfl
@[simp] theorem State.updateRecord_messages (h : Word) (f : PanelRecord → PanelRecord) :
    (s.updateRecord h f).messages = s.messages := rfl
@[simp] theorem State.updateRecord_strokesDue (h : Word) (f : PanelRecord → PanelRecord) :
    (s.updateRecord h f).strokesDue = s.strokesDue := rfl
@[simp] theorem State.updateRecord_choices (h : Word) (f : PanelRecord → PanelRecord) :
    (s.updateRecord h f).choices = s.choices := rfl

/-! #### restarve -/

@[simp] theorem State.restarve_pending : s.restarve.pending = s.pending := rfl
@[simp] theorem State.restarve_inputs : s.restarve.inputs = s.inputs := rfl
@[simp] theorem State.restarve_w : s.restarve.w = s.w := rfl
@[simp] theorem State.restarve_params : s.restarve.params = s.params := rfl
@[simp] theorem State.restarve_store : s.restarve.store = s.store := rfl
@[simp] theorem State.restarve_table :
    s.restarve.table = { s.table with starving := s.starvationCondition } := rfl
@[simp] theorem State.restarve_cutter : s.restarve.cutter = s.cutter := rfl
@[simp] theorem State.restarve_bars : s.restarve.bars = s.bars := rfl
@[simp] theorem State.restarve_needles : s.restarve.needles = s.needles := rfl
@[simp] theorem State.restarve_scans : s.restarve.scans = s.scans := rfl
@[simp] theorem State.restarve_events : s.restarve.events = s.events := rfl
@[simp] theorem State.restarve_masks : s.restarve.masks = s.masks := rfl
@[simp] theorem State.restarve_link : s.restarve.link = s.link := rfl
@[simp] theorem State.restarve_messages : s.restarve.messages = s.messages := rfl
@[simp] theorem State.restarve_strokesDue : s.restarve.strokesDue = s.strokesDue := rfl
@[simp] theorem State.restarve_choices : s.restarve.choices = s.choices := rfl

/-! #### setStore -/

@[simp] theorem State.setStore_pending (st : Store) : (s.setStore st).pending = s.pending := rfl
@[simp] theorem State.setStore_inputs (st : Store) : (s.setStore st).inputs = s.inputs := rfl
@[simp] theorem State.setStore_w (st : Store) : (s.setStore st).w = s.w := rfl
@[simp] theorem State.setStore_params (st : Store) : (s.setStore st).params = s.params := rfl
@[simp] theorem State.setStore_store (st : Store) : (s.setStore st).store = st := rfl
@[simp] theorem State.setStore_table (st : Store) : (s.setStore st).table = s.table := rfl
@[simp] theorem State.setStore_cutter (st : Store) : (s.setStore st).cutter = s.cutter := rfl
@[simp] theorem State.setStore_bars (st : Store) : (s.setStore st).bars = s.bars := rfl
@[simp] theorem State.setStore_needles (st : Store) : (s.setStore st).needles = s.needles := rfl
@[simp] theorem State.setStore_scans (st : Store) : (s.setStore st).scans = s.scans := rfl
@[simp] theorem State.setStore_events (st : Store) : (s.setStore st).events = s.events := rfl
@[simp] theorem State.setStore_masks (st : Store) : (s.setStore st).masks = s.masks := rfl
@[simp] theorem State.setStore_link (st : Store) : (s.setStore st).link = s.link := rfl
@[simp] theorem State.setStore_messages (st : Store) : (s.setStore st).messages = s.messages := rfl
@[simp] theorem State.setStore_strokesDue (st : Store) : (s.setStore st).strokesDue = s.strokesDue := rfl
@[simp] theorem State.setStore_choices (st : Store) : (s.setStore st).choices = s.choices := rfl

/-! #### setPair -/

@[simp] theorem State.setPair_pending (x y : Bool) : (s.setPair x y).pending = s.pending := rfl
@[simp] theorem State.setPair_inputs (x y : Bool) :
    (s.setPair x y).inputs = { s.inputs with webA := x, webB := y } := rfl
@[simp] theorem State.setPair_w (x y : Bool) : (s.setPair x y).w = s.w := rfl
@[simp] theorem State.setPair_params (x y : Bool) : (s.setPair x y).params = s.params := rfl
@[simp] theorem State.setPair_store (x y : Bool) : (s.setPair x y).store = s.store := rfl
@[simp] theorem State.setPair_table (x y : Bool) : (s.setPair x y).table = s.table := rfl
@[simp] theorem State.setPair_cutter (x y : Bool) : (s.setPair x y).cutter = s.cutter := rfl
@[simp] theorem State.setPair_bars (x y : Bool) : (s.setPair x y).bars = s.bars := rfl
@[simp] theorem State.setPair_needles (x y : Bool) : (s.setPair x y).needles = s.needles := rfl
@[simp] theorem State.setPair_scans (x y : Bool) : (s.setPair x y).scans = s.scans := rfl
@[simp] theorem State.setPair_events (x y : Bool) : (s.setPair x y).events = s.events := rfl
@[simp] theorem State.setPair_masks (x y : Bool) : (s.setPair x y).masks = s.masks := rfl
@[simp] theorem State.setPair_link (x y : Bool) : (s.setPair x y).link = s.link := rfl
@[simp] theorem State.setPair_messages (x y : Bool) : (s.setPair x y).messages = s.messages := rfl
@[simp] theorem State.setPair_strokesDue (x y : Bool) : (s.setPair x y).strokesDue = s.strokesDue := rfl
@[simp] theorem State.setPair_choices (x y : Bool) : (s.setPair x y).choices = s.choices := rfl

/-! #### setW -/

@[simp] theorem State.setW_pending (v : Word) : (s.setW v).pending = s.pending := rfl
@[simp] theorem State.setW_inputs (v : Word) : (s.setW v).inputs = s.inputs := rfl
@[simp] theorem State.setW_w (v : Word) : (s.setW v).w = v := rfl
@[simp] theorem State.setW_params (v : Word) : (s.setW v).params = s.params := rfl
@[simp] theorem State.setW_store (v : Word) : (s.setW v).store = s.store := rfl
@[simp] theorem State.setW_table (v : Word) : (s.setW v).table = s.table := rfl
@[simp] theorem State.setW_cutter (v : Word) : (s.setW v).cutter = s.cutter := rfl
@[simp] theorem State.setW_bars (v : Word) : (s.setW v).bars = s.bars := rfl
@[simp] theorem State.setW_needles (v : Word) : (s.setW v).needles = s.needles := rfl
@[simp] theorem State.setW_scans (v : Word) : (s.setW v).scans = s.scans := rfl
@[simp] theorem State.setW_events (v : Word) : (s.setW v).events = s.events := rfl
@[simp] theorem State.setW_masks (v : Word) : (s.setW v).masks = s.masks := rfl
@[simp] theorem State.setW_link (v : Word) : (s.setW v).link = s.link := rfl
@[simp] theorem State.setW_messages (v : Word) : (s.setW v).messages = s.messages := rfl
@[simp] theorem State.setW_strokesDue (v : Word) : (s.setW v).strokesDue = s.strokesDue := rfl
@[simp] theorem State.setW_choices (v : Word) : (s.setW v).choices = s.choices := rfl

/-! #### setCutDone -/

@[simp] theorem State.setCutDone_pending (x : Bool) : (s.setCutDone x).pending = s.pending := rfl
@[simp] theorem State.setCutDone_inputs (x : Bool) :
    (s.setCutDone x).inputs = { s.inputs with cutDone := x } := rfl
@[simp] theorem State.setCutDone_w (x : Bool) : (s.setCutDone x).w = s.w := rfl
@[simp] theorem State.setCutDone_params (x : Bool) : (s.setCutDone x).params = s.params := rfl
@[simp] theorem State.setCutDone_store (x : Bool) : (s.setCutDone x).store = s.store := rfl
@[simp] theorem State.setCutDone_table (x : Bool) : (s.setCutDone x).table = s.table := rfl
@[simp] theorem State.setCutDone_cutter (x : Bool) : (s.setCutDone x).cutter = s.cutter := rfl
@[simp] theorem State.setCutDone_bars (x : Bool) : (s.setCutDone x).bars = s.bars := rfl
@[simp] theorem State.setCutDone_needles (x : Bool) : (s.setCutDone x).needles = s.needles := rfl
@[simp] theorem State.setCutDone_scans (x : Bool) : (s.setCutDone x).scans = s.scans := rfl
@[simp] theorem State.setCutDone_events (x : Bool) : (s.setCutDone x).events = s.events := rfl
@[simp] theorem State.setCutDone_masks (x : Bool) : (s.setCutDone x).masks = s.masks := rfl
@[simp] theorem State.setCutDone_link (x : Bool) : (s.setCutDone x).link = s.link := rfl
@[simp] theorem State.setCutDone_messages (x : Bool) : (s.setCutDone x).messages = s.messages := rfl
@[simp] theorem State.setCutDone_strokesDue (x : Bool) : (s.setCutDone x).strokesDue = s.strokesDue := rfl
@[simp] theorem State.setCutDone_choices (x : Bool) : (s.setCutDone x).choices = s.choices := rfl

/-! #### setStroke -/

@[simp] theorem State.setStroke_pending (x : Bool) : (s.setStroke x).pending = s.pending := rfl
@[simp] theorem State.setStroke_inputs (x : Bool) :
    (s.setStroke x).inputs = { s.inputs with stroke := x } := rfl
@[simp] theorem State.setStroke_w (x : Bool) : (s.setStroke x).w = s.w := rfl
@[simp] theorem State.setStroke_params (x : Bool) : (s.setStroke x).params = s.params := rfl
@[simp] theorem State.setStroke_store (x : Bool) : (s.setStroke x).store = s.store := rfl
@[simp] theorem State.setStroke_table (x : Bool) : (s.setStroke x).table = s.table := rfl
@[simp] theorem State.setStroke_cutter (x : Bool) : (s.setStroke x).cutter = s.cutter := rfl
@[simp] theorem State.setStroke_bars (x : Bool) : (s.setStroke x).bars = s.bars := rfl
@[simp] theorem State.setStroke_needles (x : Bool) : (s.setStroke x).needles = s.needles := rfl
@[simp] theorem State.setStroke_scans (x : Bool) : (s.setStroke x).scans = s.scans := rfl
@[simp] theorem State.setStroke_events (x : Bool) : (s.setStroke x).events = s.events := rfl
@[simp] theorem State.setStroke_masks (x : Bool) : (s.setStroke x).masks = s.masks := rfl
@[simp] theorem State.setStroke_link (x : Bool) : (s.setStroke x).link = s.link := rfl
@[simp] theorem State.setStroke_messages (x : Bool) : (s.setStroke x).messages = s.messages := rfl
@[simp] theorem State.setStroke_strokesDue (x : Bool) : (s.setStroke x).strokesDue = s.strokesDue := rfl
@[simp] theorem State.setStroke_choices (x : Bool) : (s.setStroke x).choices = s.choices := rfl

/-! #### setNeedle -/

@[simp] theorem State.setNeedle_pending (b : Bar) (n : NeedleNo) (r : NeedleRecord) :
    (s.setNeedle b n r).pending = s.pending := rfl
@[simp] theorem State.setNeedle_inputs (b : Bar) (n : NeedleNo) (r : NeedleRecord) :
    (s.setNeedle b n r).inputs = s.inputs := rfl
@[simp] theorem State.setNeedle_w (b : Bar) (n : NeedleNo) (r : NeedleRecord) :
    (s.setNeedle b n r).w = s.w := rfl
@[simp] theorem State.setNeedle_params (b : Bar) (n : NeedleNo) (r : NeedleRecord) :
    (s.setNeedle b n r).params = s.params := rfl
@[simp] theorem State.setNeedle_store (b : Bar) (n : NeedleNo) (r : NeedleRecord) :
    (s.setNeedle b n r).store = s.store := rfl
@[simp] theorem State.setNeedle_table (b : Bar) (n : NeedleNo) (r : NeedleRecord) :
    (s.setNeedle b n r).table = s.table := rfl
@[simp] theorem State.setNeedle_cutter (b : Bar) (n : NeedleNo) (r : NeedleRecord) :
    (s.setNeedle b n r).cutter = s.cutter := rfl
@[simp] theorem State.setNeedle_bars (b : Bar) (n : NeedleNo) (r : NeedleRecord) :
    (s.setNeedle b n r).bars = s.bars := rfl
@[simp] theorem State.setNeedle_needles (b : Bar) (n : NeedleNo) (r : NeedleRecord) :
    (s.setNeedle b n r).needles = s.needles.set b ((s.needles.get b).set n r) := rfl
@[simp] theorem State.setNeedle_scans (b : Bar) (n : NeedleNo) (r : NeedleRecord) :
    (s.setNeedle b n r).scans = s.scans := rfl
@[simp] theorem State.setNeedle_events (b : Bar) (n : NeedleNo) (r : NeedleRecord) :
    (s.setNeedle b n r).events = s.events := rfl
@[simp] theorem State.setNeedle_masks (b : Bar) (n : NeedleNo) (r : NeedleRecord) :
    (s.setNeedle b n r).masks = s.masks := rfl
@[simp] theorem State.setNeedle_link (b : Bar) (n : NeedleNo) (r : NeedleRecord) :
    (s.setNeedle b n r).link = s.link := rfl
@[simp] theorem State.setNeedle_messages (b : Bar) (n : NeedleNo) (r : NeedleRecord) :
    (s.setNeedle b n r).messages = s.messages := rfl
@[simp] theorem State.setNeedle_strokesDue (b : Bar) (n : NeedleNo) (r : NeedleRecord) :
    (s.setNeedle b n r).strokesDue = s.strokesDue := rfl
@[simp] theorem State.setNeedle_choices (b : Bar) (n : NeedleNo) (r : NeedleRecord) :
    (s.setNeedle b n r).choices = s.choices := rfl

/-! #### mapNeedles -/

@[simp] theorem State.mapNeedles_pending (b : Bar) (f : NeedleRecord → NeedleRecord) :
    (s.mapNeedles b f).pending = s.pending := rfl
@[simp] theorem State.mapNeedles_inputs (b : Bar) (f : NeedleRecord → NeedleRecord) :
    (s.mapNeedles b f).inputs = s.inputs := rfl
@[simp] theorem State.mapNeedles_w (b : Bar) (f : NeedleRecord → NeedleRecord) :
    (s.mapNeedles b f).w = s.w := rfl
@[simp] theorem State.mapNeedles_params (b : Bar) (f : NeedleRecord → NeedleRecord) :
    (s.mapNeedles b f).params = s.params := rfl
@[simp] theorem State.mapNeedles_store (b : Bar) (f : NeedleRecord → NeedleRecord) :
    (s.mapNeedles b f).store = s.store := rfl
@[simp] theorem State.mapNeedles_table (b : Bar) (f : NeedleRecord → NeedleRecord) :
    (s.mapNeedles b f).table = s.table := rfl
@[simp] theorem State.mapNeedles_cutter (b : Bar) (f : NeedleRecord → NeedleRecord) :
    (s.mapNeedles b f).cutter = s.cutter := rfl
@[simp] theorem State.mapNeedles_bars (b : Bar) (f : NeedleRecord → NeedleRecord) :
    (s.mapNeedles b f).bars = s.bars := rfl
@[simp] theorem State.mapNeedles_needles (b : Bar) (f : NeedleRecord → NeedleRecord) :
    (s.mapNeedles b f).needles = s.needles.set b (vectorMap f (s.needles.get b)) := rfl
@[simp] theorem State.mapNeedles_scans (b : Bar) (f : NeedleRecord → NeedleRecord) :
    (s.mapNeedles b f).scans = s.scans := rfl
@[simp] theorem State.mapNeedles_events (b : Bar) (f : NeedleRecord → NeedleRecord) :
    (s.mapNeedles b f).events = s.events := rfl
@[simp] theorem State.mapNeedles_masks (b : Bar) (f : NeedleRecord → NeedleRecord) :
    (s.mapNeedles b f).masks = s.masks := rfl
@[simp] theorem State.mapNeedles_link (b : Bar) (f : NeedleRecord → NeedleRecord) :
    (s.mapNeedles b f).link = s.link := rfl
@[simp] theorem State.mapNeedles_messages (b : Bar) (f : NeedleRecord → NeedleRecord) :
    (s.mapNeedles b f).messages = s.messages := rfl
@[simp] theorem State.mapNeedles_strokesDue (b : Bar) (f : NeedleRecord → NeedleRecord) :
    (s.mapNeedles b f).strokesDue = s.strokesDue := rfl
@[simp] theorem State.mapNeedles_choices (b : Bar) (f : NeedleRecord → NeedleRecord) :
    (s.mapNeedles b f).choices = s.choices := rfl

/-! #### setScan -/

@[simp] theorem State.setScan_pending (b : Bar) (x : SensorChain) : (s.setScan b x).pending = s.pending := rfl
@[simp] theorem State.setScan_inputs (b : Bar) (x : SensorChain) : (s.setScan b x).inputs = s.inputs := rfl
@[simp] theorem State.setScan_w (b : Bar) (x : SensorChain) : (s.setScan b x).w = s.w := rfl
@[simp] theorem State.setScan_params (b : Bar) (x : SensorChain) : (s.setScan b x).params = s.params := rfl
@[simp] theorem State.setScan_store (b : Bar) (x : SensorChain) : (s.setScan b x).store = s.store := rfl
@[simp] theorem State.setScan_table (b : Bar) (x : SensorChain) : (s.setScan b x).table = s.table := rfl
@[simp] theorem State.setScan_cutter (b : Bar) (x : SensorChain) : (s.setScan b x).cutter = s.cutter := rfl
@[simp] theorem State.setScan_bars (b : Bar) (x : SensorChain) : (s.setScan b x).bars = s.bars := rfl
@[simp] theorem State.setScan_needles (b : Bar) (x : SensorChain) : (s.setScan b x).needles = s.needles := rfl
@[simp] theorem State.setScan_scans (b : Bar) (x : SensorChain) :
    (s.setScan b x).scans = s.scans.set b x := rfl
@[simp] theorem State.setScan_events (b : Bar) (x : SensorChain) : (s.setScan b x).events = s.events := rfl
@[simp] theorem State.setScan_masks (b : Bar) (x : SensorChain) : (s.setScan b x).masks = s.masks := rfl
@[simp] theorem State.setScan_link (b : Bar) (x : SensorChain) : (s.setScan b x).link = s.link := rfl
@[simp] theorem State.setScan_messages (b : Bar) (x : SensorChain) :
    (s.setScan b x).messages = s.messages := rfl
@[simp] theorem State.setScan_strokesDue (b : Bar) (x : SensorChain) :
    (s.setScan b x).strokesDue = s.strokesDue := rfl
@[simp] theorem State.setScan_choices (b : Bar) (x : SensorChain) : (s.setScan b x).choices = s.choices := rfl

/-! #### send -/

@[simp] theorem State.send_pending (ms : List Message) : (s.send ms).pending = s.pending := rfl
@[simp] theorem State.send_inputs (ms : List Message) : (s.send ms).inputs = s.inputs := rfl
@[simp] theorem State.send_w (ms : List Message) : (s.send ms).w = s.w := rfl
@[simp] theorem State.send_params (ms : List Message) : (s.send ms).params = s.params := rfl
@[simp] theorem State.send_store (ms : List Message) : (s.send ms).store = s.store := rfl
@[simp] theorem State.send_table (ms : List Message) : (s.send ms).table = s.table := rfl
@[simp] theorem State.send_cutter (ms : List Message) : (s.send ms).cutter = s.cutter := rfl
@[simp] theorem State.send_bars (ms : List Message) : (s.send ms).bars = s.bars := rfl
@[simp] theorem State.send_needles (ms : List Message) : (s.send ms).needles = s.needles := rfl
@[simp] theorem State.send_scans (ms : List Message) : (s.send ms).scans = s.scans := rfl
@[simp] theorem State.send_events (ms : List Message) : (s.send ms).events = s.events := rfl
@[simp] theorem State.send_masks (ms : List Message) : (s.send ms).masks = s.masks := rfl
@[simp] theorem State.send_link (ms : List Message) : (s.send ms).link = s.link := rfl
@[simp] theorem State.send_messages (ms : List Message) : (s.send ms).messages = s.messages ++ ms := rfl
@[simp] theorem State.send_strokesDue (ms : List Message) : (s.send ms).strokesDue = s.strokesDue := rfl
@[simp] theorem State.send_choices (ms : List Message) : (s.send ms).choices = s.choices := rfl

/-! #### removeMessage -/

@[simp] theorem State.removeMessage_pending (m : Message) : (s.removeMessage m).pending = s.pending := rfl
@[simp] theorem State.removeMessage_inputs (m : Message) : (s.removeMessage m).inputs = s.inputs := rfl
@[simp] theorem State.removeMessage_w (m : Message) : (s.removeMessage m).w = s.w := rfl
@[simp] theorem State.removeMessage_params (m : Message) : (s.removeMessage m).params = s.params := rfl
@[simp] theorem State.removeMessage_store (m : Message) : (s.removeMessage m).store = s.store := rfl
@[simp] theorem State.removeMessage_table (m : Message) : (s.removeMessage m).table = s.table := rfl
@[simp] theorem State.removeMessage_cutter (m : Message) : (s.removeMessage m).cutter = s.cutter := rfl
@[simp] theorem State.removeMessage_bars (m : Message) : (s.removeMessage m).bars = s.bars := rfl
@[simp] theorem State.removeMessage_needles (m : Message) : (s.removeMessage m).needles = s.needles := rfl
@[simp] theorem State.removeMessage_scans (m : Message) : (s.removeMessage m).scans = s.scans := rfl
@[simp] theorem State.removeMessage_events (m : Message) : (s.removeMessage m).events = s.events := rfl
@[simp] theorem State.removeMessage_masks (m : Message) : (s.removeMessage m).masks = s.masks := rfl
@[simp] theorem State.removeMessage_link (m : Message) : (s.removeMessage m).link = s.link := rfl
@[simp] theorem State.removeMessage_messages (m : Message) :
    (s.removeMessage m).messages = s.messages.erase m := rfl
@[simp] theorem State.removeMessage_strokesDue (m : Message) :
    (s.removeMessage m).strokesDue = s.strokesDue := rfl
@[simp] theorem State.removeMessage_choices (m : Message) : (s.removeMessage m).choices = s.choices := rfl

/-! #### beginTransaction -/

@[simp] theorem State.beginTransaction_pending : s.beginTransaction.pending = s.pending := rfl
@[simp] theorem State.beginTransaction_inputs : s.beginTransaction.inputs = s.inputs := rfl
@[simp] theorem State.beginTransaction_w : s.beginTransaction.w = s.w := rfl
@[simp] theorem State.beginTransaction_params : s.beginTransaction.params = s.params := rfl
@[simp] theorem State.beginTransaction_store : s.beginTransaction.store = s.store := rfl
@[simp] theorem State.beginTransaction_table : s.beginTransaction.table = s.table := rfl
@[simp] theorem State.beginTransaction_cutter : s.beginTransaction.cutter = s.cutter := rfl
@[simp] theorem State.beginTransaction_bars : s.beginTransaction.bars = s.bars := rfl
@[simp] theorem State.beginTransaction_needles : s.beginTransaction.needles = s.needles := rfl
@[simp] theorem State.beginTransaction_scans : s.beginTransaction.scans = s.scans := rfl
@[simp] theorem State.beginTransaction_events : s.beginTransaction.events = s.events := rfl
@[simp] theorem State.beginTransaction_masks : s.beginTransaction.masks = s.masks := rfl
@[simp] theorem State.beginTransaction_link :
    s.beginTransaction.link = { slot := .idle, output := s.link.slot, phase := .opened } := rfl
@[simp] theorem State.beginTransaction_messages : s.beginTransaction.messages = s.messages := rfl
@[simp] theorem State.beginTransaction_strokesDue : s.beginTransaction.strokesDue = s.strokesDue := rfl
@[simp] theorem State.beginTransaction_choices : s.beginTransaction.choices = s.choices := rfl

/-! #### respond -/

@[simp] theorem State.respond_pending (r : Response) : (s.respond r).pending = s.pending := rfl
@[simp] theorem State.respond_inputs (r : Response) : (s.respond r).inputs = s.inputs := rfl
@[simp] theorem State.respond_w (r : Response) : (s.respond r).w = s.w := rfl
@[simp] theorem State.respond_params (r : Response) : (s.respond r).params = s.params := rfl
@[simp] theorem State.respond_store (r : Response) : (s.respond r).store = s.store := rfl
@[simp] theorem State.respond_table (r : Response) : (s.respond r).table = s.table := rfl
@[simp] theorem State.respond_cutter (r : Response) : (s.respond r).cutter = s.cutter := rfl
@[simp] theorem State.respond_bars (r : Response) : (s.respond r).bars = s.bars := rfl
@[simp] theorem State.respond_needles (r : Response) : (s.respond r).needles = s.needles := rfl
@[simp] theorem State.respond_scans (r : Response) : (s.respond r).scans = s.scans := rfl
@[simp] theorem State.respond_events (r : Response) : (s.respond r).events = s.events := rfl
@[simp] theorem State.respond_masks (r : Response) : (s.respond r).masks = s.masks := rfl
@[simp] theorem State.respond_link (r : Response) :
    (s.respond r).link = { s.link with slot := r, phase := .answered } := rfl
@[simp] theorem State.respond_messages (r : Response) : (s.respond r).messages = s.messages := rfl
@[simp] theorem State.respond_strokesDue (r : Response) : (s.respond r).strokesDue = s.strokesDue := rfl
@[simp] theorem State.respond_choices (r : Response) : (s.respond r).choices = s.choices := rfl

/-! #### endTransaction -/

@[simp] theorem State.endTransaction_pending : s.endTransaction.pending = s.pending := rfl
@[simp] theorem State.endTransaction_inputs : s.endTransaction.inputs = s.inputs := rfl
@[simp] theorem State.endTransaction_w : s.endTransaction.w = s.w := rfl
@[simp] theorem State.endTransaction_params : s.endTransaction.params = s.params := rfl
@[simp] theorem State.endTransaction_store : s.endTransaction.store = s.store := rfl
@[simp] theorem State.endTransaction_table : s.endTransaction.table = s.table := rfl
@[simp] theorem State.endTransaction_cutter : s.endTransaction.cutter = s.cutter := rfl
@[simp] theorem State.endTransaction_bars : s.endTransaction.bars = s.bars := rfl
@[simp] theorem State.endTransaction_needles : s.endTransaction.needles = s.needles := rfl
@[simp] theorem State.endTransaction_scans : s.endTransaction.scans = s.scans := rfl
@[simp] theorem State.endTransaction_events : s.endTransaction.events = s.events := rfl
@[simp] theorem State.endTransaction_masks : s.endTransaction.masks = s.masks := rfl
@[simp] theorem State.endTransaction_link : s.endTransaction.link = { s.link with phase := .idle } := rfl
@[simp] theorem State.endTransaction_messages : s.endTransaction.messages = s.messages := rfl
@[simp] theorem State.endTransaction_strokesDue : s.endTransaction.strokesDue = s.strokesDue := rfl
@[simp] theorem State.endTransaction_choices : s.endTransaction.choices = s.choices := rfl

/-! #### ignoreTransaction -/

@[simp] theorem State.ignoreTransaction_pending : s.ignoreTransaction.pending = s.pending := rfl
@[simp] theorem State.ignoreTransaction_inputs : s.ignoreTransaction.inputs = s.inputs := rfl
@[simp] theorem State.ignoreTransaction_w : s.ignoreTransaction.w = s.w := rfl
@[simp] theorem State.ignoreTransaction_params : s.ignoreTransaction.params = s.params := rfl
@[simp] theorem State.ignoreTransaction_store : s.ignoreTransaction.store = s.store := rfl
@[simp] theorem State.ignoreTransaction_table : s.ignoreTransaction.table = s.table := rfl
@[simp] theorem State.ignoreTransaction_cutter : s.ignoreTransaction.cutter = s.cutter := rfl
@[simp] theorem State.ignoreTransaction_bars : s.ignoreTransaction.bars = s.bars := rfl
@[simp] theorem State.ignoreTransaction_needles : s.ignoreTransaction.needles = s.needles := rfl
@[simp] theorem State.ignoreTransaction_scans : s.ignoreTransaction.scans = s.scans := rfl
@[simp] theorem State.ignoreTransaction_events : s.ignoreTransaction.events = s.events := rfl
@[simp] theorem State.ignoreTransaction_masks : s.ignoreTransaction.masks = s.masks := rfl
@[simp] theorem State.ignoreTransaction_link :
    s.ignoreTransaction.link = { s.link with phase := .ignored } := rfl
@[simp] theorem State.ignoreTransaction_messages : s.ignoreTransaction.messages = s.messages := rfl
@[simp] theorem State.ignoreTransaction_strokesDue : s.ignoreTransaction.strokesDue = s.strokesDue := rfl
@[simp] theorem State.ignoreTransaction_choices : s.ignoreTransaction.choices = s.choices := rfl

/-! #### setResetN -/

@[simp] theorem State.setResetN_pending (x : Bool) : (s.setResetN x).pending = s.pending := rfl
@[simp] theorem State.setResetN_inputs (x : Bool) :
    (s.setResetN x).inputs = { s.inputs with resetN := x } := rfl
@[simp] theorem State.setResetN_w (x : Bool) : (s.setResetN x).w = s.w := rfl
@[simp] theorem State.setResetN_params (x : Bool) : (s.setResetN x).params = s.params := rfl
@[simp] theorem State.setResetN_store (x : Bool) : (s.setResetN x).store = s.store := rfl
@[simp] theorem State.setResetN_table (x : Bool) : (s.setResetN x).table = s.table := rfl
@[simp] theorem State.setResetN_cutter (x : Bool) : (s.setResetN x).cutter = s.cutter := rfl
@[simp] theorem State.setResetN_bars (x : Bool) : (s.setResetN x).bars = s.bars := rfl
@[simp] theorem State.setResetN_needles (x : Bool) : (s.setResetN x).needles = s.needles := rfl
@[simp] theorem State.setResetN_scans (x : Bool) : (s.setResetN x).scans = s.scans := rfl
@[simp] theorem State.setResetN_events (x : Bool) : (s.setResetN x).events = s.events := rfl
@[simp] theorem State.setResetN_masks (x : Bool) : (s.setResetN x).masks = s.masks := rfl
@[simp] theorem State.setResetN_link (x : Bool) : (s.setResetN x).link = s.link := rfl
@[simp] theorem State.setResetN_messages (x : Bool) : (s.setResetN x).messages = s.messages := rfl
@[simp] theorem State.setResetN_strokesDue (x : Bool) : (s.setResetN x).strokesDue = s.strokesDue := rfl
@[simp] theorem State.setResetN_choices (x : Bool) : (s.setResetN x).choices = s.choices := rfl

/-! #### Inputs.operates: it depends on the supply and on RESET_N alone -/

variable (i : Inputs)

@[simp] theorem Inputs.operates_pair (x y : Bool) :
    Inputs.operates { i with webA := x, webB := y } = i.operates := rfl
@[simp] theorem Inputs.operates_stroke (x : Bool) : Inputs.operates { i with stroke := x } = i.operates := rfl
@[simp] theorem Inputs.operates_cutDone (x : Bool) : Inputs.operates { i with cutDone := x } = i.operates := rfl
@[simp] theorem Inputs.operates_freeze (x : Bool) : Inputs.operates { i with freeze := x } = i.operates := rfl
@[simp] theorem Inputs.operates_driveFault (x : PerBar Bool) :
    Inputs.operates { i with driveFault := x } = i.operates := rfl
@[simp] theorem Inputs.operates_low : Inputs.operates { i with resetN := false } = false := Bool.and_false _
@[simp] theorem Inputs.operates_started :
    Inputs.operates { i with supply := true, resetN := true } = true := rfl

/-- The part operates exactly while the supply is good and RESET_N is not held low (R155, R172). -/
theorem Inputs.operates_iff : i.operates = true ↔ i.supply = true ∧ i.resetN = true := Bool.and_eq_true _ _ ▸ Iff.rfl

end Sys2Proof.Machine
end

