-- ==== Sys2Proof/Laws/Word.lean ====
section
/-! SUPPORT. Reading what was written: the three bars, vectors, and the named places of the state. -/

namespace Sys2Proof

@[simp] theorem PerBar.get_set_self {α : Type} (p : PerBar α) (b : Bar) (v : α) : (p.set b v).get b = v := by
  cases b <;> rfl

theorem PerBar.get_set_of_ne {α : Type} (p : PerBar α) {b c : Bar} (v : α) (h : c ≠ b) :
    (p.set b v).get c = p.get c := by
  cases b <;> cases c <;> first | rfl | exact absurd rfl h

theorem PerBar.get_set {α : Type} (p : PerBar α) (b c : Bar) (v : α) :
    (p.set b v).get c = if c = b then v else p.get c := by
  cases b <;> cases c <;> rfl

@[simp] theorem PerBar.get_const {α : Type} (v : α) (b : Bar) : (PerBar.const v).get b = v := by cases b <;> rfl

@[simp] theorem PerBar.get_map {α β : Type} (f : α → β) (p : PerBar α) (b : Bar) :
    (p.map f).get b = f (p.get b) := by
  cases b <;> rfl

@[simp] theorem PerBar.set_get {α : Type} (p : PerBar α) (b : Bar) : p.set b (p.get b) = p := by
  cases b <;> rfl

theorem PerBar.ext_get {α : Type} {p q : PerBar α} (h : ∀ b, p.get b = q.get b) : p = q := by
  obtain ⟨a, b, c⟩ := p
  obtain ⟨a', b', c'⟩ := q
  simpa [PerBar.get] using And.intro (h .A) (And.intro (h .B) (h .C))

@[simp] theorem getElem_vectorMap {α β : Type} {n : Nat} (f : α → β) (v : Vector α n) (i : Nat) (h : i < n) :
    (vectorMap f v)[i] = f v[i] := by
  simp [vectorMap]

namespace Machine

variable (s : State)

theorem Sticky.index_inj {e d : Sticky} : e.index = d.index ↔ e = d := by
  constructor
  · cases e <;> cases d <;> first | exact fun _ => rfl | (intro h; exact absurd h (by decide))
  · rintro rfl; rfl

theorem State.event_setEvent (e d : Sticky) (x : EventSlot) :
    (s.setEvent e x).event d = if d = e then x else s.event d := by
  simp only [State.event, State.setEvent, Fin.getElem_fin, Vector.getElem_set, ← Fin.ext_iff, Sticky.index_inj,
    eq_comm]

@[simp] theorem State.event_setEvent_self (e : Sticky) (x : EventSlot) : (s.setEvent e x).event e = x := by
  simp [State.event_setEvent]

theorem State.event_raise (e d : Sticky) (x : Option Detail) :
    (s.raise e x).event d = if d = e then (s.event e).raise x else s.event d :=
  State.event_setEvent s e d _

@[simp] theorem State.event_raise_self (e : Sticky) (x : Option Detail) :
    (s.raise e x).event e = (s.event e).raise x := by
  simp [State.event_raise]

theorem State.event_raise_of_ne {e d : Sticky} (x : Option Detail) (h : d ≠ e) :
    (s.raise e x).event d = s.event d := by
  simp [State.event_raise, h]

theorem State.needle_setNeedle (b c : Bar) (n m : NeedleNo) (r : NeedleRecord) :
    (s.setNeedle b n r).needle c m = if c = b ∧ m = n then r else s.needle c m := by
  have key : ∀ v : Vector NeedleRecord 40, (v.set n r)[m] = if m = n then r else v[m] := by
    intro v
    simp only [Fin.getElem_fin, Vector.getElem_set, Fin.ext_iff, eq_comm]
  cases b <;> cases c <;> simp [State.needle, State.setNeedle, PerBar.get, PerBar.set, key]

@[simp] theorem State.needle_setNeedle_self (b : Bar) (n : NeedleNo) (r : NeedleRecord) :
    (s.setNeedle b n r).needle b n = r := by
  simp [State.needle_setNeedle]

theorem State.needle_mapNeedles (b c : Bar) (f : NeedleRecord → NeedleRecord) (m : NeedleNo) :
    (s.mapNeedles b f).needle c m = if c = b then f (s.needle c m) else s.needle c m := by
  cases b <;> cases c <;> simp [State.needle, State.mapNeedles, PerBar.get, PerBar.set]

@[simp] theorem State.get_setBar_self (b : Bar) (c : BarContext) : (s.setBar b c).bars.get b = c := by
  simp

theorem State.get_latch (b c : Bar) (r : HaltReason) :
    ((s.latch b r).bars.get c) =
      if c = b then
        { s.bars.get b with control :=
          { (s.bars.get b).control with latched := (s.bars.get b).control.latched.add r } }
      else s.bars.get c := by
  cases b <;> cases c <;> rfl

/-- A latch of one reason on every bar changes the latched reasons of each, and nothing else (R94). -/
theorem State.get_latchAll (r : HaltReason) (b : Bar) :
    (s.latchAll r).bars.get b =
      { s.bars.get b with control :=
        { (s.bars.get b).control with latched := (s.bars.get b).control.latched.add r } } := by
  cases b <;> rfl

end Machine

end Sys2Proof
end

