-- ==== Sys2Proof/Laws/Frames.lean ====
section
/-! SUPPORT. What each shared operation leaves unchanged: one lemma for each field of the state it does not write. -/

namespace Sys2Proof.Machine

variable (s : State)

/-! #### raiseIf -/

@[simp] theorem State.raiseIf_pending (c : Bool) (e : Sticky) (d : Option Detail) : (s.raiseIf c e d).pending = s.pending := by
  unfold State.raiseIf
  repeat' split
  all_goals simp
@[simp] theorem State.raiseIf_inputs (c : Bool) (e : Sticky) (d : Option Detail) : (s.raiseIf c e d).inputs = s.inputs := by
  unfold State.raiseIf
  repeat' split
  all_goals simp
@[simp] theorem State.raiseIf_w (c : Bool) (e : Sticky) (d : Option Detail) : (s.raiseIf c e d).w = s.w := by
  unfold State.raiseIf
  repeat' split
  all_goals simp
@[simp] theorem State.raiseIf_params (c : Bool) (e : Sticky) (d : Option Detail) : (s.raiseIf c e d).params = s.params := by
  unfold State.raiseIf
  repeat' split
  all_goals simp
@[simp] theorem State.raiseIf_store (c : Bool) (e : Sticky) (d : Option Detail) : (s.raiseIf c e d).store = s.store := by
  unfold State.raiseIf
  repeat' split
  all_goals simp
@[simp] theorem State.raiseIf_table (c : Bool) (e : Sticky) (d : Option Detail) : (s.raiseIf c e d).table = s.table := by
  unfold State.raiseIf
  repeat' split
  all_goals simp
@[simp] theorem State.raiseIf_cutter (c : Bool) (e : Sticky) (d : Option Detail) : (s.raiseIf c e d).cutter = s.cutter := by
  unfold State.raiseIf
  repeat' split
  all_goals simp
@[simp] theorem State.raiseIf_bars (c : Bool) (e : Sticky) (d : Option Detail) : (s.raiseIf c e d).bars = s.bars := by
  unfold State.raiseIf
  repeat' split
  all_goals simp
@[simp] theorem State.raiseIf_needles (c : Bool) (e : Sticky) (d : Option Detail) : (s.raiseIf c e d).needles = s.needles := by
  unfold State.raiseIf
  repeat' split
  all_goals simp
@[simp] theorem State.raiseIf_scans (c : Bool) (e : Sticky) (d : Option Detail) : (s.raiseIf c e d).scans = s.scans := by
  unfold State.raiseIf
  repeat' split
  all_goals simp
@[simp] theorem State.raiseIf_masks (c : Bool) (e : Sticky) (d : Option Detail) : (s.raiseIf c e d).masks = s.masks := by
  unfold State.raiseIf
  repeat' split
  all_goals simp
@[simp] theorem State.raiseIf_link (c : Bool) (e : Sticky) (d : Option Detail) : (s.raiseIf c e d).link = s.link := by
  unfold State.raiseIf
  repeat' split
  all_goals simp
@[simp] theorem State.raiseIf_messages (c : Bool) (e : Sticky) (d : Option Detail) : (s.raiseIf c e d).messages = s.messages := by
  unfold State.raiseIf
  repeat' split
  all_goals simp
@[simp] theorem State.raiseIf_strokesDue (c : Bool) (e : Sticky) (d : Option Detail) : (s.raiseIf c e d).strokesDue = s.strokesDue := by
  unfold State.raiseIf
  repeat' split
  all_goals simp
@[simp] theorem State.raiseIf_choices (c : Bool) (e : Sticky) (d : Option Detail) : (s.raiseIf c e d).choices = s.choices := by
  unfold State.raiseIf
  repeat' split
  all_goals simp

/-! #### latchAll -/

@[simp] theorem State.latchAll_pending (r : HaltReason) : (s.latchAll r).pending = s.pending := rfl
@[simp] theorem State.latchAll_inputs (r : HaltReason) : (s.latchAll r).inputs = s.inputs := rfl
@[simp] theorem State.latchAll_w (r : HaltReason) : (s.latchAll r).w = s.w := rfl
@[simp] theorem State.latchAll_params (r : HaltReason) : (s.latchAll r).params = s.params := rfl
@[simp] theorem State.latchAll_store (r : HaltReason) : (s.latchAll r).store = s.store := rfl
@[simp] theorem State.latchAll_table (r : HaltReason) : (s.latchAll r).table = s.table := rfl
@[simp] theorem State.latchAll_cutter (r : HaltReason) : (s.latchAll r).cutter = s.cutter := rfl
@[simp] theorem State.latchAll_needles (r : HaltReason) : (s.latchAll r).needles = s.needles := rfl
@[simp] theorem State.latchAll_scans (r : HaltReason) : (s.latchAll r).scans = s.scans := rfl
@[simp] theorem State.latchAll_events (r : HaltReason) : (s.latchAll r).events = s.events := rfl
@[simp] theorem State.latchAll_masks (r : HaltReason) : (s.latchAll r).masks = s.masks := rfl
@[simp] theorem State.latchAll_link (r : HaltReason) : (s.latchAll r).link = s.link := rfl
@[simp] theorem State.latchAll_messages (r : HaltReason) : (s.latchAll r).messages = s.messages := rfl
@[simp] theorem State.latchAll_strokesDue (r : HaltReason) : (s.latchAll r).strokesDue = s.strokesDue := rfl
@[simp] theorem State.latchAll_choices (r : HaltReason) : (s.latchAll r).choices = s.choices := rfl

/-! #### fold -/

@[simp] theorem State.fold_pending (h : Word) (b : Option Bar) (k : DefectSet) (y : Int) : (s.fold h b k y).pending = s.pending := by
  unfold State.fold
  repeat' split
  all_goals simp
@[simp] theorem State.fold_inputs (h : Word) (b : Option Bar) (k : DefectSet) (y : Int) : (s.fold h b k y).inputs = s.inputs := by
  unfold State.fold
  repeat' split
  all_goals simp
@[simp] theorem State.fold_w (h : Word) (b : Option Bar) (k : DefectSet) (y : Int) : (s.fold h b k y).w = s.w := by
  unfold State.fold
  repeat' split
  all_goals simp
@[simp] theorem State.fold_params (h : Word) (b : Option Bar) (k : DefectSet) (y : Int) : (s.fold h b k y).params = s.params := by
  unfold State.fold
  repeat' split
  all_goals simp
@[simp] theorem State.fold_store (h : Word) (b : Option Bar) (k : DefectSet) (y : Int) : (s.fold h b k y).store = s.store := by
  unfold State.fold
  repeat' split
  all_goals simp
@[simp] theorem State.fold_cutter (h : Word) (b : Option Bar) (k : DefectSet) (y : Int) : (s.fold h b k y).cutter = s.cutter := by
  unfold State.fold
  repeat' split
  all_goals simp
@[simp] theorem State.fold_bars (h : Word) (b : Option Bar) (k : DefectSet) (y : Int) : (s.fold h b k y).bars = s.bars := by
  unfold State.fold
  repeat' split
  all_goals simp
@[simp] theorem State.fold_needles (h : Word) (b : Option Bar) (k : DefectSet) (y : Int) : (s.fold h b k y).needles = s.needles := by
  unfold State.fold
  repeat' split
  all_goals simp
@[simp] theorem State.fold_scans (h : Word) (b : Option Bar) (k : DefectSet) (y : Int) : (s.fold h b k y).scans = s.scans := by
  unfold State.fold
  repeat' split
  all_goals simp
@[simp] theorem State.fold_masks (h : Word) (b : Option Bar) (k : DefectSet) (y : Int) : (s.fold h b k y).masks = s.masks := by
  unfold State.fold
  repeat' split
  all_goals simp
@[simp] theorem State.fold_link (h : Word) (b : Option Bar) (k : DefectSet) (y : Int) : (s.fold h b k y).link = s.link := by
  unfold State.fold
  repeat' split
  all_goals simp
@[simp] theorem State.fold_messages (h : Word) (b : Option Bar) (k : DefectSet) (y : Int) : (s.fold h b k y).messages = s.messages := by
  unfold State.fold
  repeat' split
  all_goals simp
@[simp] theorem State.fold_strokesDue (h : Word) (b : Option Bar) (k : DefectSet) (y : Int) : (s.fold h b k y).strokesDue = s.strokesDue := by
  unfold State.fold
  repeat' split
  all_goals simp
@[simp] theorem State.fold_choices (h : Word) (b : Option Bar) (k : DefectSet) (y : Int) : (s.fold h b k y).choices = s.choices := by
  unfold State.fold
  repeat' split
  all_goals simp

/-! #### takeNotice -/

@[simp] theorem State.takeNotice_pending (n : DefectNotice) : (s.takeNotice n).pending = s.pending := by
  unfold State.takeNotice
  repeat' split
  all_goals simp
@[simp] theorem State.takeNotice_inputs (n : DefectNotice) : (s.takeNotice n).inputs = s.inputs := by
  unfold State.takeNotice
  repeat' split
  all_goals simp
@[simp] theorem State.takeNotice_w (n : DefectNotice) : (s.takeNotice n).w = s.w := by
  unfold State.takeNotice
  repeat' split
  all_goals simp
@[simp] theorem State.takeNotice_params (n : DefectNotice) : (s.takeNotice n).params = s.params := by
  unfold State.takeNotice
  repeat' split
  all_goals simp
@[simp] theorem State.takeNotice_store (n : DefectNotice) : (s.takeNotice n).store = s.store := by
  unfold State.takeNotice
  repeat' split
  all_goals simp
@[simp] theorem State.takeNotice_cutter (n : DefectNotice) : (s.takeNotice n).cutter = s.cutter := by
  unfold State.takeNotice
  repeat' split
  all_goals simp
@[simp] theorem State.takeNotice_needles (n : DefectNotice) : (s.takeNotice n).needles = s.needles := by
  unfold State.takeNotice
  repeat' split
  all_goals simp
@[simp] theorem State.takeNotice_scans (n : DefectNotice) : (s.takeNotice n).scans = s.scans := by
  unfold State.takeNotice
  repeat' split
  all_goals simp
@[simp] theorem State.takeNotice_masks (n : DefectNotice) : (s.takeNotice n).masks = s.masks := by
  unfold State.takeNotice
  repeat' split
  all_goals simp
@[simp] theorem State.takeNotice_link (n : DefectNotice) : (s.takeNotice n).link = s.link := by
  unfold State.takeNotice
  repeat' split
  all_goals simp
@[simp] theorem State.takeNotice_messages (n : DefectNotice) : (s.takeNotice n).messages = s.messages := by
  unfold State.takeNotice
  repeat' split
  all_goals simp
@[simp] theorem State.takeNotice_strokesDue (n : DefectNotice) : (s.takeNotice n).strokesDue = s.strokesDue := by
  unfold State.takeNotice
  repeat' split
  all_goals simp
@[simp] theorem State.takeNotice_choices (n : DefectNotice) : (s.takeNotice n).choices = s.choices := by
  unfold State.takeNotice
  repeat' split
  all_goals simp

/-! #### takeStatus -/

@[simp] theorem State.takeStatus_pending (m : StatusMessage) : (s.takeStatus m).pending = s.pending := by
  simp [State.takeStatus]
@[simp] theorem State.takeStatus_inputs (m : StatusMessage) : (s.takeStatus m).inputs = s.inputs := by
  simp [State.takeStatus]
@[simp] theorem State.takeStatus_w (m : StatusMessage) : (s.takeStatus m).w = s.w := by
  simp [State.takeStatus]
@[simp] theorem State.takeStatus_params (m : StatusMessage) : (s.takeStatus m).params = s.params := by
  simp [State.takeStatus]
@[simp] theorem State.takeStatus_store (m : StatusMessage) : (s.takeStatus m).store = s.store := by
  simp [State.takeStatus]
@[simp] theorem State.takeStatus_cutter (m : StatusMessage) : (s.takeStatus m).cutter = s.cutter := by
  simp [State.takeStatus]
@[simp] theorem State.takeStatus_bars (m : StatusMessage) : (s.takeStatus m).bars = s.bars := by
  simp [State.takeStatus]
@[simp] theorem State.takeStatus_needles (m : StatusMessage) : (s.takeStatus m).needles = s.needles := by
  simp [State.takeStatus]
@[simp] theorem State.takeStatus_scans (m : StatusMessage) : (s.takeStatus m).scans = s.scans := by
  simp [State.takeStatus]
@[simp] theorem State.takeStatus_events (m : StatusMessage) : (s.takeStatus m).events = s.events := by
  simp [State.takeStatus]
@[simp] theorem State.takeStatus_masks (m : StatusMessage) : (s.takeStatus m).masks = s.masks := by
  simp [State.takeStatus]
@[simp] theorem State.takeStatus_link (m : StatusMessage) : (s.takeStatus m).link = s.link := by
  simp [State.takeStatus]
@[simp] theorem State.takeStatus_messages (m : StatusMessage) : (s.takeStatus m).messages = s.messages := by
  simp [State.takeStatus]
@[simp] theorem State.takeStatus_strokesDue (m : StatusMessage) : (s.takeStatus m).strokesDue = s.strokesDue := by
  simp [State.takeStatus]
@[simp] theorem State.takeStatus_choices (m : StatusMessage) : (s.takeStatus m).choices = s.choices := by
  simp [State.takeStatus]

/-! #### retire -/

@[simp] theorem State.retire_pending (o : CutOutcome) : (s.retire o).pending = s.pending := by
  unfold State.retire
  repeat' split
  all_goals simp
@[simp] theorem State.retire_inputs (o : CutOutcome) : (s.retire o).inputs = s.inputs := by
  unfold State.retire
  repeat' split
  all_goals simp
@[simp] theorem State.retire_w (o : CutOutcome) : (s.retire o).w = s.w := by
  unfold State.retire
  repeat' split
  all_goals simp
@[simp] theorem State.retire_params (o : CutOutcome) : (s.retire o).params = s.params := by
  unfold State.retire
  repeat' split
  all_goals simp
@[simp] theorem State.retire_bars (o : CutOutcome) : (s.retire o).bars = s.bars := by
  unfold State.retire
  repeat' split
  all_goals simp
@[simp] theorem State.retire_needles (o : CutOutcome) : (s.retire o).needles = s.needles := by
  unfold State.retire
  repeat' split
  all_goals simp
@[simp] theorem State.retire_scans (o : CutOutcome) : (s.retire o).scans = s.scans := by
  unfold State.retire
  repeat' split
  all_goals simp
@[simp] theorem State.retire_masks (o : CutOutcome) : (s.retire o).masks = s.masks := by
  unfold State.retire
  repeat' split
  all_goals simp
@[simp] theorem State.retire_link (o : CutOutcome) : (s.retire o).link = s.link := by
  unfold State.retire
  repeat' split
  all_goals simp
@[simp] theorem State.retire_messages (o : CutOutcome) : (s.retire o).messages = s.messages := by
  unfold State.retire
  repeat' split
  all_goals simp
@[simp] theorem State.retire_strokesDue (o : CutOutcome) : (s.retire o).strokesDue = s.strokesDue := by
  unfold State.retire
  repeat' split
  all_goals simp
@[simp] theorem State.retire_choices (o : CutOutcome) : (s.retire o).choices = s.choices := by
  unfold State.retire
  repeat' split
  all_goals simp

/-! #### missCut -/

@[simp] theorem State.missCut_pending (o : CutOutcome) : (s.missCut o).pending = s.pending := by
  unfold State.missCut
  repeat' split
  all_goals simp
@[simp] theorem State.missCut_inputs (o : CutOutcome) : (s.missCut o).inputs = s.inputs := by
  unfold State.missCut
  repeat' split
  all_goals simp
@[simp] theorem State.missCut_w (o : CutOutcome) : (s.missCut o).w = s.w := by
  unfold State.missCut
  repeat' split
  all_goals simp
@[simp] theorem State.missCut_params (o : CutOutcome) : (s.missCut o).params = s.params := by
  unfold State.missCut
  repeat' split
  all_goals simp
@[simp] theorem State.missCut_bars (o : CutOutcome) : (s.missCut o).bars = s.bars := by
  unfold State.missCut
  repeat' split
  all_goals simp
@[simp] theorem State.missCut_needles (o : CutOutcome) : (s.missCut o).needles = s.needles := by
  unfold State.missCut
  repeat' split
  all_goals simp
@[simp] theorem State.missCut_scans (o : CutOutcome) : (s.missCut o).scans = s.scans := by
  unfold State.missCut
  repeat' split
  all_goals simp
@[simp] theorem State.missCut_masks (o : CutOutcome) : (s.missCut o).masks = s.masks := by
  unfold State.missCut
  repeat' split
  all_goals simp
@[simp] theorem State.missCut_link (o : CutOutcome) : (s.missCut o).link = s.link := by
  unfold State.missCut
  repeat' split
  all_goals simp
@[simp] theorem State.missCut_messages (o : CutOutcome) : (s.missCut o).messages = s.messages := by
  unfold State.missCut
  repeat' split
  all_goals simp
@[simp] theorem State.missCut_strokesDue (o : CutOutcome) : (s.missCut o).strokesDue = s.strokesDue := by
  unfold State.missCut
  repeat' split
  all_goals simp
@[simp] theorem State.missCut_choices (o : CutOutcome) : (s.missCut o).choices = s.choices := by
  unfold State.missCut
  repeat' split
  all_goals simp

/-! #### settle -/

@[simp] theorem State.settle_pending (h : Word) (b : Bar) : (s.settle h b).pending = s.pending := by
  unfold State.settle
  repeat' split
  all_goals simp
@[simp] theorem State.settle_inputs (h : Word) (b : Bar) : (s.settle h b).inputs = s.inputs := by
  unfold State.settle
  repeat' split
  all_goals simp
@[simp] theorem State.settle_w (h : Word) (b : Bar) : (s.settle h b).w = s.w := by
  unfold State.settle
  repeat' split
  all_goals simp
@[simp] theorem State.settle_params (h : Word) (b : Bar) : (s.settle h b).params = s.params := by
  unfold State.settle
  repeat' split
  all_goals simp
@[simp] theorem State.settle_store (h : Word) (b : Bar) : (s.settle h b).store = s.store := by
  unfold State.settle
  repeat' split
  all_goals simp
@[simp] theorem State.settle_cutter (h : Word) (b : Bar) : (s.settle h b).cutter = s.cutter := by
  unfold State.settle
  repeat' split
  all_goals simp
@[simp] theorem State.settle_bars (h : Word) (b : Bar) : (s.settle h b).bars = s.bars := by
  unfold State.settle
  repeat' split
  all_goals simp
@[simp] theorem State.settle_needles (h : Word) (b : Bar) : (s.settle h b).needles = s.needles := by
  unfold State.settle
  repeat' split
  all_goals simp
@[simp] theorem State.settle_scans (h : Word) (b : Bar) : (s.settle h b).scans = s.scans := by
  unfold State.settle
  repeat' split
  all_goals simp
@[simp] theorem State.settle_masks (h : Word) (b : Bar) : (s.settle h b).masks = s.masks := by
  unfold State.settle
  repeat' split
  all_goals simp
@[simp] theorem State.settle_link (h : Word) (b : Bar) : (s.settle h b).link = s.link := by
  unfold State.settle
  repeat' split
  all_goals simp
@[simp] theorem State.settle_messages (h : Word) (b : Bar) : (s.settle h b).messages = s.messages := by
  unfold State.settle
  repeat' split
  all_goals simp
@[simp] theorem State.settle_strokesDue (h : Word) (b : Bar) : (s.settle h b).strokesDue = s.strokesDue := by
  unfold State.settle
  repeat' split
  all_goals simp
@[simp] theorem State.settle_choices (h : Word) (b : Bar) : (s.settle h b).choices = s.choices := by
  unfold State.settle
  repeat' split
  all_goals simp

/-! #### makePending -/

@[simp] theorem State.makePending_pending (n : CutterState) : (s.makePending n).pending = s.pending := by
  unfold State.makePending
  split
  · rfl
  · simp [Bar.all]
@[simp] theorem State.makePending_inputs (n : CutterState) : (s.makePending n).inputs = s.inputs := by
  unfold State.makePending
  split
  · rfl
  · simp [Bar.all]
@[simp] theorem State.makePending_w (n : CutterState) : (s.makePending n).w = s.w := by
  unfold State.makePending
  split
  · rfl
  · simp [Bar.all]
@[simp] theorem State.makePending_params (n : CutterState) : (s.makePending n).params = s.params := by
  unfold State.makePending
  split
  · rfl
  · simp [Bar.all]
@[simp] theorem State.makePending_store (n : CutterState) : (s.makePending n).store = s.store := by
  unfold State.makePending
  split
  · rfl
  · simp [Bar.all]
@[simp] theorem State.makePending_bars (n : CutterState) : (s.makePending n).bars = s.bars := by
  unfold State.makePending
  split
  · rfl
  · simp [Bar.all]
@[simp] theorem State.makePending_needles (n : CutterState) : (s.makePending n).needles = s.needles := by
  unfold State.makePending
  split
  · rfl
  · simp [Bar.all]
@[simp] theorem State.makePending_scans (n : CutterState) : (s.makePending n).scans = s.scans := by
  unfold State.makePending
  split
  · rfl
  · simp [Bar.all]
@[simp] theorem State.makePending_masks (n : CutterState) : (s.makePending n).masks = s.masks := by
  unfold State.makePending
  split
  · rfl
  · simp [Bar.all]
@[simp] theorem State.makePending_link (n : CutterState) : (s.makePending n).link = s.link := by
  unfold State.makePending
  split
  · rfl
  · simp [Bar.all]
@[simp] theorem State.makePending_messages (n : CutterState) : (s.makePending n).messages = s.messages := by
  unfold State.makePending
  split
  · rfl
  · simp [Bar.all]
@[simp] theorem State.makePending_strokesDue (n : CutterState) : (s.makePending n).strokesDue = s.strokesDue := by
  unfold State.makePending
  split
  · rfl
  · simp [Bar.all]
@[simp] theorem State.makePending_choices (n : CutterState) : (s.makePending n).choices = s.choices := by
  unfold State.makePending
  split
  · rfl
  · simp [Bar.all]

/-! #### testPending -/

@[simp] theorem State.testPending_pending : s.testPending.pending = s.pending := by
  unfold State.testPending
  repeat' split
  all_goals simp
@[simp] theorem State.testPending_inputs : s.testPending.inputs = s.inputs := by
  unfold State.testPending
  repeat' split
  all_goals simp
@[simp] theorem State.testPending_w : s.testPending.w = s.w := by
  unfold State.testPending
  repeat' split
  all_goals simp
@[simp] theorem State.testPending_params : s.testPending.params = s.params := by
  unfold State.testPending
  repeat' split
  all_goals simp
@[simp] theorem State.testPending_bars : s.testPending.bars = s.bars := by
  unfold State.testPending
  repeat' split
  all_goals simp
@[simp] theorem State.testPending_needles : s.testPending.needles = s.needles := by
  unfold State.testPending
  repeat' split
  all_goals simp
@[simp] theorem State.testPending_scans : s.testPending.scans = s.scans := by
  unfold State.testPending
  repeat' split
  all_goals simp
@[simp] theorem State.testPending_masks : s.testPending.masks = s.masks := by
  unfold State.testPending
  repeat' split
  all_goals simp
@[simp] theorem State.testPending_link : s.testPending.link = s.link := by
  unfold State.testPending
  repeat' split
  all_goals simp
@[simp] theorem State.testPending_messages : s.testPending.messages = s.messages := by
  unfold State.testPending
  repeat' split
  all_goals simp
@[simp] theorem State.testPending_strokesDue : s.testPending.strokesDue = s.strokesDue := by
  unfold State.testPending
  repeat' split
  all_goals simp
@[simp] theorem State.testPending_choices : s.testPending.choices = s.choices := by
  unfold State.testPending
  repeat' split
  all_goals simp

/-! #### assertRequest -/

@[simp] theorem State.assertRequest_pending : s.assertRequest.pending = s.pending := by
  unfold State.assertRequest
  repeat' split
  all_goals simp
@[simp] theorem State.assertRequest_inputs : s.assertRequest.inputs = s.inputs := by
  unfold State.assertRequest
  repeat' split
  all_goals simp
@[simp] theorem State.assertRequest_w : s.assertRequest.w = s.w := by
  unfold State.assertRequest
  repeat' split
  all_goals simp
@[simp] theorem State.assertRequest_params : s.assertRequest.params = s.params := by
  unfold State.assertRequest
  repeat' split
  all_goals simp
@[simp] theorem State.assertRequest_store : s.assertRequest.store = s.store := by
  unfold State.assertRequest
  repeat' split
  all_goals simp
@[simp] theorem State.assertRequest_table : s.assertRequest.table = s.table := by
  unfold State.assertRequest
  repeat' split
  all_goals simp
@[simp] theorem State.assertRequest_bars : s.assertRequest.bars = s.bars := by
  unfold State.assertRequest
  repeat' split
  all_goals simp
@[simp] theorem State.assertRequest_needles : s.assertRequest.needles = s.needles := by
  unfold State.assertRequest
  repeat' split
  all_goals simp
@[simp] theorem State.assertRequest_scans : s.assertRequest.scans = s.scans := by
  unfold State.assertRequest
  repeat' split
  all_goals simp
@[simp] theorem State.assertRequest_events : s.assertRequest.events = s.events := by
  unfold State.assertRequest
  repeat' split
  all_goals simp
@[simp] theorem State.assertRequest_masks : s.assertRequest.masks = s.masks := by
  unfold State.assertRequest
  repeat' split
  all_goals simp
@[simp] theorem State.assertRequest_link : s.assertRequest.link = s.link := by
  unfold State.assertRequest
  repeat' split
  all_goals simp
@[simp] theorem State.assertRequest_messages : s.assertRequest.messages = s.messages := by
  unfold State.assertRequest
  repeat' split
  all_goals simp
@[simp] theorem State.assertRequest_strokesDue : s.assertRequest.strokesDue = s.strokesDue := by
  unfold State.assertRequest
  repeat' split
  all_goals simp
@[simp] theorem State.assertRequest_choices : s.assertRequest.choices = s.choices := by
  unfold State.assertRequest
  repeat' split
  all_goals simp

/-! #### cutPoint -/

@[simp] theorem State.cutPoint_pending : s.cutPoint.pending = s.pending := by
  dsimp only [State.cutPoint]
  split_ifs <;> simp
@[simp] theorem State.cutPoint_inputs : s.cutPoint.inputs = s.inputs := by
  dsimp only [State.cutPoint]
  split_ifs <;> simp
@[simp] theorem State.cutPoint_w : s.cutPoint.w = s.w := by
  dsimp only [State.cutPoint]
  split_ifs <;> simp
@[simp] theorem State.cutPoint_params : s.cutPoint.params = s.params := by
  dsimp only [State.cutPoint]
  split_ifs <;> simp
@[simp] theorem State.cutPoint_bars : s.cutPoint.bars = s.bars := by
  dsimp only [State.cutPoint]
  split_ifs <;> simp
@[simp] theorem State.cutPoint_needles : s.cutPoint.needles = s.needles := by
  dsimp only [State.cutPoint]
  split_ifs <;> simp
@[simp] theorem State.cutPoint_scans : s.cutPoint.scans = s.scans := by
  dsimp only [State.cutPoint]
  split_ifs <;> simp
@[simp] theorem State.cutPoint_masks : s.cutPoint.masks = s.masks := by
  dsimp only [State.cutPoint]
  split_ifs <;> simp
@[simp] theorem State.cutPoint_link : s.cutPoint.link = s.link := by
  dsimp only [State.cutPoint]
  split_ifs <;> simp
@[simp] theorem State.cutPoint_messages : s.cutPoint.messages = s.messages := by
  dsimp only [State.cutPoint]
  split_ifs <;> simp
@[simp] theorem State.cutPoint_strokesDue : s.cutPoint.strokesDue = s.strokesDue := by
  dsimp only [State.cutPoint]
  split_ifs <;> simp
@[simp] theorem State.cutPoint_choices : s.cutPoint.choices = s.choices := by
  dsimp only [State.cutPoint]
  split_ifs <;> simp

/-! #### wArrival -/

@[simp] theorem State.wArrival_pending : s.wArrival.pending = s.pending := by
  simp [State.wArrival]
@[simp] theorem State.wArrival_inputs : s.wArrival.inputs = s.inputs := by
  simp [State.wArrival]
@[simp] theorem State.wArrival_w : s.wArrival.w = s.w := by
  simp [State.wArrival]
@[simp] theorem State.wArrival_params : s.wArrival.params = s.params := by
  simp [State.wArrival]
@[simp] theorem State.wArrival_bars : s.wArrival.bars = s.bars := by
  simp [State.wArrival]
@[simp] theorem State.wArrival_needles : s.wArrival.needles = s.needles := by
  simp [State.wArrival]
@[simp] theorem State.wArrival_scans : s.wArrival.scans = s.scans := by
  simp [State.wArrival]
@[simp] theorem State.wArrival_masks : s.wArrival.masks = s.masks := by
  simp [State.wArrival]
@[simp] theorem State.wArrival_link : s.wArrival.link = s.link := by
  simp [State.wArrival]
@[simp] theorem State.wArrival_messages : s.wArrival.messages = s.messages := by
  simp [State.wArrival]
@[simp] theorem State.wArrival_strokesDue : s.wArrival.strokesDue = s.strokesDue := by
  simp [State.wArrival]
@[simp] theorem State.wArrival_choices : s.wArrival.choices = s.choices := by
  simp [State.wArrival]

/-! #### addPanel -/

@[simp] theorem State.addPanel_pending (r : PanelRecord) : (s.addPanel r).pending = s.pending := by
  simp [State.addPanel]
@[simp] theorem State.addPanel_inputs (r : PanelRecord) : (s.addPanel r).inputs = s.inputs := by
  simp [State.addPanel]
@[simp] theorem State.addPanel_w (r : PanelRecord) : (s.addPanel r).w = s.w := by
  simp [State.addPanel]
@[simp] theorem State.addPanel_params (r : PanelRecord) : (s.addPanel r).params = s.params := by
  simp [State.addPanel]
@[simp] theorem State.addPanel_cutter (r : PanelRecord) : (s.addPanel r).cutter = s.cutter := by
  simp [State.addPanel]
@[simp] theorem State.addPanel_bars (r : PanelRecord) : (s.addPanel r).bars = s.bars := by
  simp [State.addPanel]
@[simp] theorem State.addPanel_needles (r : PanelRecord) : (s.addPanel r).needles = s.needles := by
  simp [State.addPanel]
@[simp] theorem State.addPanel_scans (r : PanelRecord) : (s.addPanel r).scans = s.scans := by
  simp [State.addPanel]
@[simp] theorem State.addPanel_events (r : PanelRecord) : (s.addPanel r).events = s.events := by
  simp [State.addPanel]
@[simp] theorem State.addPanel_masks (r : PanelRecord) : (s.addPanel r).masks = s.masks := by
  simp [State.addPanel]
@[simp] theorem State.addPanel_link (r : PanelRecord) : (s.addPanel r).link = s.link := by
  simp [State.addPanel]
@[simp] theorem State.addPanel_messages (r : PanelRecord) : (s.addPanel r).messages = s.messages := by
  simp [State.addPanel]
@[simp] theorem State.addPanel_strokesDue (r : PanelRecord) : (s.addPanel r).strokesDue = s.strokesDue := by
  simp [State.addPanel]
@[simp] theorem State.addPanel_choices (r : PanelRecord) : (s.addPanel r).choices = s.choices := by
  simp [State.addPanel]

/-! #### removeRecord -/

@[simp] theorem State.removeRecord_pending (r : PanelRecord) : (s.removeRecord r).pending = s.pending := by
  simp [State.removeRecord]
@[simp] theorem State.removeRecord_inputs (r : PanelRecord) : (s.removeRecord r).inputs = s.inputs := by
  simp [State.removeRecord]
@[simp] theorem State.removeRecord_w (r : PanelRecord) : (s.removeRecord r).w = s.w := by
  simp [State.removeRecord]
@[simp] theorem State.removeRecord_params (r : PanelRecord) : (s.removeRecord r).params = s.params := by
  simp [State.removeRecord]
@[simp] theorem State.removeRecord_cutter (r : PanelRecord) : (s.removeRecord r).cutter = s.cutter := by
  simp [State.removeRecord]
@[simp] theorem State.removeRecord_bars (r : PanelRecord) : (s.removeRecord r).bars = s.bars := by
  simp [State.removeRecord]
@[simp] theorem State.removeRecord_needles (r : PanelRecord) : (s.removeRecord r).needles = s.needles := by
  simp [State.removeRecord]
@[simp] theorem State.removeRecord_scans (r : PanelRecord) : (s.removeRecord r).scans = s.scans := by
  simp [State.removeRecord]
@[simp] theorem State.removeRecord_events (r : PanelRecord) : (s.removeRecord r).events = s.events := by
  simp [State.removeRecord]
@[simp] theorem State.removeRecord_masks (r : PanelRecord) : (s.removeRecord r).masks = s.masks := by
  simp [State.removeRecord]
@[simp] theorem State.removeRecord_link (r : PanelRecord) : (s.removeRecord r).link = s.link := by
  simp [State.removeRecord]
@[simp] theorem State.removeRecord_messages (r : PanelRecord) : (s.removeRecord r).messages = s.messages := by
  simp [State.removeRecord]
@[simp] theorem State.removeRecord_strokesDue (r : PanelRecord) : (s.removeRecord r).strokesDue = s.strokesDue := by
  simp [State.removeRecord]
@[simp] theorem State.removeRecord_choices (r : PanelRecord) : (s.removeRecord r).choices = s.choices := by
  simp [State.removeRecord]

/-! #### markAborted -/

@[simp] theorem State.markAborted_pending (r : PanelRecord) : (s.markAborted r).pending = s.pending := by
  simp [State.markAborted]
@[simp] theorem State.markAborted_inputs (r : PanelRecord) : (s.markAborted r).inputs = s.inputs := by
  simp [State.markAborted]
@[simp] theorem State.markAborted_w (r : PanelRecord) : (s.markAborted r).w = s.w := by
  simp [State.markAborted]
@[simp] theorem State.markAborted_params (r : PanelRecord) : (s.markAborted r).params = s.params := by
  simp [State.markAborted]
@[simp] theorem State.markAborted_store (r : PanelRecord) : (s.markAborted r).store = s.store := by
  simp [State.markAborted]
@[simp] theorem State.markAborted_cutter (r : PanelRecord) : (s.markAborted r).cutter = s.cutter := by
  simp [State.markAborted]
@[simp] theorem State.markAborted_bars (r : PanelRecord) : (s.markAborted r).bars = s.bars := by
  simp [State.markAborted]
@[simp] theorem State.markAborted_needles (r : PanelRecord) : (s.markAborted r).needles = s.needles := by
  simp [State.markAborted]
@[simp] theorem State.markAborted_scans (r : PanelRecord) : (s.markAborted r).scans = s.scans := by
  simp [State.markAborted]
@[simp] theorem State.markAborted_masks (r : PanelRecord) : (s.markAborted r).masks = s.masks := by
  simp [State.markAborted]
@[simp] theorem State.markAborted_link (r : PanelRecord) : (s.markAborted r).link = s.link := by
  simp [State.markAborted]
@[simp] theorem State.markAborted_messages (r : PanelRecord) : (s.markAborted r).messages = s.messages := by
  simp [State.markAborted]
@[simp] theorem State.markAborted_strokesDue (r : PanelRecord) : (s.markAborted r).strokesDue = s.strokesDue := by
  simp [State.markAborted]
@[simp] theorem State.markAborted_choices (r : PanelRecord) : (s.markAborted r).choices = s.choices := by
  simp [State.markAborted]

/-! #### acknowledgeCut -/

@[simp] theorem State.acknowledgeCut_pending : s.acknowledgeCut.pending = s.pending := by
  unfold State.acknowledgeCut
  repeat' split
  all_goals simp
@[simp] theorem State.acknowledgeCut_inputs : s.acknowledgeCut.inputs = s.inputs := by
  unfold State.acknowledgeCut
  repeat' split
  all_goals simp
@[simp] theorem State.acknowledgeCut_w : s.acknowledgeCut.w = s.w := by
  unfold State.acknowledgeCut
  repeat' split
  all_goals simp
@[simp] theorem State.acknowledgeCut_params : s.acknowledgeCut.params = s.params := by
  unfold State.acknowledgeCut
  repeat' split
  all_goals simp
@[simp] theorem State.acknowledgeCut_bars : s.acknowledgeCut.bars = s.bars := by
  unfold State.acknowledgeCut
  repeat' split
  all_goals simp
@[simp] theorem State.acknowledgeCut_needles : s.acknowledgeCut.needles = s.needles := by
  unfold State.acknowledgeCut
  repeat' split
  all_goals simp
@[simp] theorem State.acknowledgeCut_scans : s.acknowledgeCut.scans = s.scans := by
  unfold State.acknowledgeCut
  repeat' split
  all_goals simp
@[simp] theorem State.acknowledgeCut_masks : s.acknowledgeCut.masks = s.masks := by
  unfold State.acknowledgeCut
  repeat' split
  all_goals simp
@[simp] theorem State.acknowledgeCut_link : s.acknowledgeCut.link = s.link := by
  unfold State.acknowledgeCut
  repeat' split
  all_goals simp
@[simp] theorem State.acknowledgeCut_messages : s.acknowledgeCut.messages = s.messages := by
  unfold State.acknowledgeCut
  repeat' split
  all_goals simp
@[simp] theorem State.acknowledgeCut_strokesDue : s.acknowledgeCut.strokesDue = s.strokesDue := by
  unfold State.acknowledgeCut
  repeat' split
  all_goals simp
@[simp] theorem State.acknowledgeCut_choices : s.acknowledgeCut.choices = s.choices := by
  unfold State.acknowledgeCut
  repeat' split
  all_goals simp

/-! #### takePair -/

@[simp] theorem State.takePair_pending (x y : Bool) : (s.takePair x y).pending = s.pending := by
  unfold State.takePair
  repeat' split
  all_goals simp
@[simp] theorem State.takePair_params (x y : Bool) : (s.takePair x y).params = s.params := by
  unfold State.takePair
  repeat' split
  all_goals simp
@[simp] theorem State.takePair_store (x y : Bool) : (s.takePair x y).store = s.store := by
  unfold State.takePair
  repeat' split
  all_goals simp
@[simp] theorem State.takePair_table (x y : Bool) : (s.takePair x y).table = s.table := by
  unfold State.takePair
  repeat' split
  all_goals simp
@[simp] theorem State.takePair_cutter (x y : Bool) : (s.takePair x y).cutter = s.cutter := by
  unfold State.takePair
  repeat' split
  all_goals simp
@[simp] theorem State.takePair_bars (x y : Bool) : (s.takePair x y).bars = s.bars := by
  unfold State.takePair
  repeat' split
  all_goals simp
@[simp] theorem State.takePair_needles (x y : Bool) : (s.takePair x y).needles = s.needles := by
  unfold State.takePair
  repeat' split
  all_goals simp
@[simp] theorem State.takePair_scans (x y : Bool) : (s.takePair x y).scans = s.scans := by
  unfold State.takePair
  repeat' split
  all_goals simp
@[simp] theorem State.takePair_events (x y : Bool) : (s.takePair x y).events = s.events := by
  unfold State.takePair
  repeat' split
  all_goals simp
@[simp] theorem State.takePair_masks (x y : Bool) : (s.takePair x y).masks = s.masks := by
  unfold State.takePair
  repeat' split
  all_goals simp
@[simp] theorem State.takePair_link (x y : Bool) : (s.takePair x y).link = s.link := by
  unfold State.takePair
  repeat' split
  all_goals simp
@[simp] theorem State.takePair_messages (x y : Bool) : (s.takePair x y).messages = s.messages := by
  unfold State.takePair
  repeat' split
  all_goals simp
@[simp] theorem State.takePair_strokesDue (x y : Bool) : (s.takePair x y).strokesDue = s.strokesDue := by
  unfold State.takePair
  repeat' split
  all_goals simp
@[simp] theorem State.takePair_choices (x y : Bool) : (s.takePair x y).choices = s.choices := by
  unfold State.takePair
  repeat' split
  all_goals simp

/-! #### countArrival -/

@[simp] theorem State.countArrival_pending (x y : Bool) : (s.countArrival x y).pending = s.pending := by
  unfold State.countArrival
  repeat' split
  all_goals simp
@[simp] theorem State.countArrival_params (x y : Bool) : (s.countArrival x y).params = s.params := by
  unfold State.countArrival
  repeat' split
  all_goals simp
@[simp] theorem State.countArrival_needles (x y : Bool) : (s.countArrival x y).needles = s.needles := by
  unfold State.countArrival
  repeat' split
  all_goals simp
@[simp] theorem State.countArrival_scans (x y : Bool) : (s.countArrival x y).scans = s.scans := by
  unfold State.countArrival
  repeat' split
  all_goals simp
@[simp] theorem State.countArrival_masks (x y : Bool) : (s.countArrival x y).masks = s.masks := by
  unfold State.countArrival
  repeat' split
  all_goals simp
@[simp] theorem State.countArrival_link (x y : Bool) : (s.countArrival x y).link = s.link := by
  unfold State.countArrival
  repeat' split
  all_goals simp
@[simp] theorem State.countArrival_messages (x y : Bool) : (s.countArrival x y).messages = s.messages := by
  unfold State.countArrival
  repeat' split
  all_goals simp
@[simp] theorem State.countArrival_strokesDue (x y : Bool) : (s.countArrival x y).strokesDue = s.strokesDue := by
  unfold State.countArrival
  repeat' split
  all_goals simp
@[simp] theorem State.countArrival_choices (x y : Bool) : (s.countArrival x y).choices = s.choices := by
  unfold State.countArrival
  repeat' split
  all_goals simp

/-! #### overtakeScan -/

@[simp] theorem State.overtakeScan_pending (b : Bar) : (s.overtakeScan b).pending = s.pending := by
  unfold State.overtakeScan
  repeat' split
  all_goals simp
@[simp] theorem State.overtakeScan_inputs (b : Bar) : (s.overtakeScan b).inputs = s.inputs := by
  unfold State.overtakeScan
  repeat' split
  all_goals simp
@[simp] theorem State.overtakeScan_w (b : Bar) : (s.overtakeScan b).w = s.w := by
  unfold State.overtakeScan
  repeat' split
  all_goals simp
@[simp] theorem State.overtakeScan_params (b : Bar) : (s.overtakeScan b).params = s.params := by
  unfold State.overtakeScan
  repeat' split
  all_goals simp
@[simp] theorem State.overtakeScan_store (b : Bar) : (s.overtakeScan b).store = s.store := by
  unfold State.overtakeScan
  repeat' split
  all_goals simp
@[simp] theorem State.overtakeScan_table (b : Bar) : (s.overtakeScan b).table = s.table := by
  unfold State.overtakeScan
  repeat' split
  all_goals simp
@[simp] theorem State.overtakeScan_cutter (b : Bar) : (s.overtakeScan b).cutter = s.cutter := by
  unfold State.overtakeScan
  repeat' split
  all_goals simp
@[simp] theorem State.overtakeScan_bars (b : Bar) : (s.overtakeScan b).bars = s.bars := by
  unfold State.overtakeScan
  repeat' split
  all_goals simp
@[simp] theorem State.overtakeScan_needles (b : Bar) : (s.overtakeScan b).needles = s.needles := by
  unfold State.overtakeScan
  repeat' split
  all_goals simp
@[simp] theorem State.overtakeScan_scans (b : Bar) : (s.overtakeScan b).scans = s.scans := by
  unfold State.overtakeScan
  repeat' split
  all_goals simp
@[simp] theorem State.overtakeScan_masks (b : Bar) : (s.overtakeScan b).masks = s.masks := by
  unfold State.overtakeScan
  repeat' split
  all_goals simp
@[simp] theorem State.overtakeScan_link (b : Bar) : (s.overtakeScan b).link = s.link := by
  unfold State.overtakeScan
  repeat' split
  all_goals simp
@[simp] theorem State.overtakeScan_messages (b : Bar) : (s.overtakeScan b).messages = s.messages := by
  unfold State.overtakeScan
  repeat' split
  all_goals simp
@[simp] theorem State.overtakeScan_strokesDue (b : Bar) : (s.overtakeScan b).strokesDue = s.strokesDue := by
  unfold State.overtakeScan
  repeat' split
  all_goals simp
@[simp] theorem State.overtakeScan_choices (b : Bar) : (s.overtakeScan b).choices = s.choices := by
  unfold State.overtakeScan
  repeat' split
  all_goals simp

/-! #### takeScanRequest -/

@[simp] theorem State.takeScanRequest_pending (r : ScanRequest) : (s.takeScanRequest r).pending = s.pending := by
  unfold State.takeScanRequest
  repeat' split
  all_goals simp
@[simp] theorem State.takeScanRequest_inputs (r : ScanRequest) : (s.takeScanRequest r).inputs = s.inputs := by
  unfold State.takeScanRequest
  repeat' split
  all_goals simp
@[simp] theorem State.takeScanRequest_w (r : ScanRequest) : (s.takeScanRequest r).w = s.w := by
  unfold State.takeScanRequest
  repeat' split
  all_goals simp
@[simp] theorem State.takeScanRequest_params (r : ScanRequest) : (s.takeScanRequest r).params = s.params := by
  unfold State.takeScanRequest
  repeat' split
  all_goals simp
@[simp] theorem State.takeScanRequest_store (r : ScanRequest) : (s.takeScanRequest r).store = s.store := by
  unfold State.takeScanRequest
  repeat' split
  all_goals simp
@[simp] theorem State.takeScanRequest_table (r : ScanRequest) : (s.takeScanRequest r).table = s.table := by
  unfold State.takeScanRequest
  repeat' split
  all_goals simp
@[simp] theorem State.takeScanRequest_cutter (r : ScanRequest) : (s.takeScanRequest r).cutter = s.cutter := by
  unfold State.takeScanRequest
  repeat' split
  all_goals simp
@[simp] theorem State.takeScanRequest_bars (r : ScanRequest) : (s.takeScanRequest r).bars = s.bars := by
  unfold State.takeScanRequest
  repeat' split
  all_goals simp
@[simp] theorem State.takeScanRequest_masks (r : ScanRequest) : (s.takeScanRequest r).masks = s.masks := by
  unfold State.takeScanRequest
  repeat' split
  all_goals simp
@[simp] theorem State.takeScanRequest_link (r : ScanRequest) : (s.takeScanRequest r).link = s.link := by
  unfold State.takeScanRequest
  repeat' split
  all_goals simp
@[simp] theorem State.takeScanRequest_messages (r : ScanRequest) : (s.takeScanRequest r).messages = s.messages := by
  unfold State.takeScanRequest
  repeat' split
  all_goals simp
@[simp] theorem State.takeScanRequest_strokesDue (r : ScanRequest) : (s.takeScanRequest r).strokesDue = s.strokesDue := by
  unfold State.takeScanRequest
  repeat' split
  all_goals simp
@[simp] theorem State.takeScanRequest_choices (r : ScanRequest) : (s.takeScanRequest r).choices = s.choices := by
  unfold State.takeScanRequest
  repeat' split
  all_goals simp

/-! #### applyFinding -/

@[simp] theorem State.applyFinding_pending (b : Bar) (n : NeedleNo) (f : ScanFinding) : (s.applyFinding b n f).pending = s.pending := by
  simp [State.applyFinding]
@[simp] theorem State.applyFinding_inputs (b : Bar) (n : NeedleNo) (f : ScanFinding) : (s.applyFinding b n f).inputs = s.inputs := by
  simp [State.applyFinding]
@[simp] theorem State.applyFinding_w (b : Bar) (n : NeedleNo) (f : ScanFinding) : (s.applyFinding b n f).w = s.w := by
  simp [State.applyFinding]
@[simp] theorem State.applyFinding_params (b : Bar) (n : NeedleNo) (f : ScanFinding) : (s.applyFinding b n f).params = s.params := by
  simp [State.applyFinding]
@[simp] theorem State.applyFinding_store (b : Bar) (n : NeedleNo) (f : ScanFinding) : (s.applyFinding b n f).store = s.store := by
  simp [State.applyFinding]
@[simp] theorem State.applyFinding_table (b : Bar) (n : NeedleNo) (f : ScanFinding) : (s.applyFinding b n f).table = s.table := by
  simp [State.applyFinding]
@[simp] theorem State.applyFinding_cutter (b : Bar) (n : NeedleNo) (f : ScanFinding) : (s.applyFinding b n f).cutter = s.cutter := by
  simp [State.applyFinding]
@[simp] theorem State.applyFinding_bars (b : Bar) (n : NeedleNo) (f : ScanFinding) : (s.applyFinding b n f).bars = s.bars := by
  simp [State.applyFinding]
@[simp] theorem State.applyFinding_scans (b : Bar) (n : NeedleNo) (f : ScanFinding) : (s.applyFinding b n f).scans = s.scans := by
  simp [State.applyFinding]
@[simp] theorem State.applyFinding_masks (b : Bar) (n : NeedleNo) (f : ScanFinding) : (s.applyFinding b n f).masks = s.masks := by
  simp [State.applyFinding]
@[simp] theorem State.applyFinding_link (b : Bar) (n : NeedleNo) (f : ScanFinding) : (s.applyFinding b n f).link = s.link := by
  simp [State.applyFinding]
@[simp] theorem State.applyFinding_messages (b : Bar) (n : NeedleNo) (f : ScanFinding) : (s.applyFinding b n f).messages = s.messages := by
  simp [State.applyFinding]
@[simp] theorem State.applyFinding_strokesDue (b : Bar) (n : NeedleNo) (f : ScanFinding) : (s.applyFinding b n f).strokesDue = s.strokesDue := by
  simp [State.applyFinding]
@[simp] theorem State.applyFinding_choices (b : Bar) (n : NeedleNo) (f : ScanFinding) : (s.applyFinding b n f).choices = s.choices := by
  simp [State.applyFinding]

/-! #### sendMonitorNotice -/

@[simp] theorem State.sendMonitorNotice_pending (b : Bar) (p : Option Word) (k : DefectKind) : (s.sendMonitorNotice b p k).pending = s.pending := by
  unfold State.sendMonitorNotice
  repeat' split
  all_goals simp
@[simp] theorem State.sendMonitorNotice_inputs (b : Bar) (p : Option Word) (k : DefectKind) : (s.sendMonitorNotice b p k).inputs = s.inputs := by
  unfold State.sendMonitorNotice
  repeat' split
  all_goals simp
@[simp] theorem State.sendMonitorNotice_w (b : Bar) (p : Option Word) (k : DefectKind) : (s.sendMonitorNotice b p k).w = s.w := by
  unfold State.sendMonitorNotice
  repeat' split
  all_goals simp
@[simp] theorem State.sendMonitorNotice_params (b : Bar) (p : Option Word) (k : DefectKind) : (s.sendMonitorNotice b p k).params = s.params := by
  unfold State.sendMonitorNotice
  repeat' split
  all_goals simp
@[simp] theorem State.sendMonitorNotice_store (b : Bar) (p : Option Word) (k : DefectKind) : (s.sendMonitorNotice b p k).store = s.store := by
  unfold State.sendMonitorNotice
  repeat' split
  all_goals simp
@[simp] theorem State.sendMonitorNotice_table (b : Bar) (p : Option Word) (k : DefectKind) : (s.sendMonitorNotice b p k).table = s.table := by
  unfold State.sendMonitorNotice
  repeat' split
  all_goals simp
@[simp] theorem State.sendMonitorNotice_cutter (b : Bar) (p : Option Word) (k : DefectKind) : (s.sendMonitorNotice b p k).cutter = s.cutter := by
  unfold State.sendMonitorNotice
  repeat' split
  all_goals simp
@[simp] theorem State.sendMonitorNotice_bars (b : Bar) (p : Option Word) (k : DefectKind) : (s.sendMonitorNotice b p k).bars = s.bars := by
  unfold State.sendMonitorNotice
  repeat' split
  all_goals simp
@[simp] theorem State.sendMonitorNotice_needles (b : Bar) (p : Option Word) (k : DefectKind) : (s.sendMonitorNotice b p k).needles = s.needles := by
  unfold State.sendMonitorNotice
  repeat' split
  all_goals simp
@[simp] theorem State.sendMonitorNotice_scans (b : Bar) (p : Option Word) (k : DefectKind) : (s.sendMonitorNotice b p k).scans = s.scans := by
  unfold State.sendMonitorNotice
  repeat' split
  all_goals simp
@[simp] theorem State.sendMonitorNotice_events (b : Bar) (p : Option Word) (k : DefectKind) : (s.sendMonitorNotice b p k).events = s.events := by
  unfold State.sendMonitorNotice
  repeat' split
  all_goals simp
@[simp] theorem State.sendMonitorNotice_masks (b : Bar) (p : Option Word) (k : DefectKind) : (s.sendMonitorNotice b p k).masks = s.masks := by
  unfold State.sendMonitorNotice
  repeat' split
  all_goals simp
@[simp] theorem State.sendMonitorNotice_link (b : Bar) (p : Option Word) (k : DefectKind) : (s.sendMonitorNotice b p k).link = s.link := by
  unfold State.sendMonitorNotice
  repeat' split
  all_goals simp
@[simp] theorem State.sendMonitorNotice_strokesDue (b : Bar) (p : Option Word) (k : DefectKind) : (s.sendMonitorNotice b p k).strokesDue = s.strokesDue := by
  unfold State.sendMonitorNotice
  repeat' split
  all_goals simp
@[simp] theorem State.sendMonitorNotice_choices (b : Bar) (p : Option Word) (k : DefectKind) : (s.sendMonitorNotice b p k).choices = s.choices := by
  unfold State.sendMonitorNotice
  repeat' split
  all_goals simp

/-! #### evaluateScan -/

theorem evaluateNeedle_frame (b : Bar) (c : NeedleSet) (ns : List NeedleNo) (a : State × Bool) :
    ∃ nd ev, (ns.foldl (evaluateNeedle b c) a).1 = { a.1 with needles := nd, events := ev } := by
  induction ns generalizing a with
  | nil => exact ⟨_, _, rfl⟩
  | cons n ns ih =>
    obtain ⟨nd, ev, h⟩ := ih (evaluateNeedle b c a n)
    have hs : ∃ nd ev, (evaluateNeedle b c a n).1 = { a.1 with needles := nd, events := ev } := by
      simp only [evaluateNeedle, State.applyFinding, State.raiseIf]
      repeat' split
      all_goals exact ⟨_, _, rfl⟩
    obtain ⟨nd', ev', h'⟩ := hs
    exact ⟨nd, ev, by rw [List.foldl_cons, h, h']⟩

@[simp] theorem State.evaluateScan_pending (b : Bar) (x : Scan) (c : NeedleSet) : (s.evaluateScan b x c).pending = s.pending := by
  obtain ⟨_, _, h⟩ := evaluateNeedle_frame b c (members x.expected) (s, false)
  unfold State.evaluateScan
  dsimp only
  split <;> simp [h]
@[simp] theorem State.evaluateScan_inputs (b : Bar) (x : Scan) (c : NeedleSet) : (s.evaluateScan b x c).inputs = s.inputs := by
  obtain ⟨_, _, h⟩ := evaluateNeedle_frame b c (members x.expected) (s, false)
  unfold State.evaluateScan
  dsimp only
  split <;> simp [h]
@[simp] theorem State.evaluateScan_w (b : Bar) (x : Scan) (c : NeedleSet) : (s.evaluateScan b x c).w = s.w := by
  obtain ⟨_, _, h⟩ := evaluateNeedle_frame b c (members x.expected) (s, false)
  unfold State.evaluateScan
  dsimp only
  split <;> simp [h]
@[simp] theorem State.evaluateScan_params (b : Bar) (x : Scan) (c : NeedleSet) : (s.evaluateScan b x c).params = s.params := by
  obtain ⟨_, _, h⟩ := evaluateNeedle_frame b c (members x.expected) (s, false)
  unfold State.evaluateScan
  dsimp only
  split <;> simp [h]
@[simp] theorem State.evaluateScan_store (b : Bar) (x : Scan) (c : NeedleSet) : (s.evaluateScan b x c).store = s.store := by
  obtain ⟨_, _, h⟩ := evaluateNeedle_frame b c (members x.expected) (s, false)
  unfold State.evaluateScan
  dsimp only
  split <;> simp [h]
@[simp] theorem State.evaluateScan_table (b : Bar) (x : Scan) (c : NeedleSet) : (s.evaluateScan b x c).table = s.table := by
  obtain ⟨_, _, h⟩ := evaluateNeedle_frame b c (members x.expected) (s, false)
  unfold State.evaluateScan
  dsimp only
  split <;> simp [h]
@[simp] theorem State.evaluateScan_cutter (b : Bar) (x : Scan) (c : NeedleSet) : (s.evaluateScan b x c).cutter = s.cutter := by
  obtain ⟨_, _, h⟩ := evaluateNeedle_frame b c (members x.expected) (s, false)
  unfold State.evaluateScan
  dsimp only
  split <;> simp [h]
@[simp] theorem State.evaluateScan_bars (b : Bar) (x : Scan) (c : NeedleSet) : (s.evaluateScan b x c).bars = s.bars := by
  obtain ⟨_, _, h⟩ := evaluateNeedle_frame b c (members x.expected) (s, false)
  unfold State.evaluateScan
  dsimp only
  split <;> simp [h]
@[simp] theorem State.evaluateScan_scans (b : Bar) (x : Scan) (c : NeedleSet) : (s.evaluateScan b x c).scans = s.scans := by
  obtain ⟨_, _, h⟩ := evaluateNeedle_frame b c (members x.expected) (s, false)
  unfold State.evaluateScan
  dsimp only
  split <;> simp [h]
@[simp] theorem State.evaluateScan_masks (b : Bar) (x : Scan) (c : NeedleSet) : (s.evaluateScan b x c).masks = s.masks := by
  obtain ⟨_, _, h⟩ := evaluateNeedle_frame b c (members x.expected) (s, false)
  unfold State.evaluateScan
  dsimp only
  split <;> simp [h]
@[simp] theorem State.evaluateScan_link (b : Bar) (x : Scan) (c : NeedleSet) : (s.evaluateScan b x c).link = s.link := by
  obtain ⟨_, _, h⟩ := evaluateNeedle_frame b c (members x.expected) (s, false)
  unfold State.evaluateScan
  dsimp only
  split <;> simp [h]
@[simp] theorem State.evaluateScan_strokesDue (b : Bar) (x : Scan) (c : NeedleSet) : (s.evaluateScan b x c).strokesDue = s.strokesDue := by
  obtain ⟨_, _, h⟩ := evaluateNeedle_frame b c (members x.expected) (s, false)
  unfold State.evaluateScan
  dsimp only
  split <;> simp [h]
@[simp] theorem State.evaluateScan_choices (b : Bar) (x : Scan) (c : NeedleSet) : (s.evaluateScan b x c).choices = s.choices := by
  obtain ⟨_, _, h⟩ := evaluateNeedle_frame b c (members x.expected) (s, false)
  unfold State.evaluateScan
  dsimp only
  split <;> simp [h]

/-! #### takeScanData -/

@[simp] theorem State.takeScanData_pending (b : Bar) (c : NeedleSet) : (s.takeScanData b c).pending = s.pending := by
  unfold State.takeScanData
  repeat' split
  all_goals simp
@[simp] theorem State.takeScanData_inputs (b : Bar) (c : NeedleSet) : (s.takeScanData b c).inputs = s.inputs := by
  unfold State.takeScanData
  repeat' split
  all_goals simp
@[simp] theorem State.takeScanData_w (b : Bar) (c : NeedleSet) : (s.takeScanData b c).w = s.w := by
  unfold State.takeScanData
  repeat' split
  all_goals simp
@[simp] theorem State.takeScanData_params (b : Bar) (c : NeedleSet) : (s.takeScanData b c).params = s.params := by
  unfold State.takeScanData
  repeat' split
  all_goals simp
@[simp] theorem State.takeScanData_store (b : Bar) (c : NeedleSet) : (s.takeScanData b c).store = s.store := by
  unfold State.takeScanData
  repeat' split
  all_goals simp
@[simp] theorem State.takeScanData_table (b : Bar) (c : NeedleSet) : (s.takeScanData b c).table = s.table := by
  unfold State.takeScanData
  repeat' split
  all_goals simp
@[simp] theorem State.takeScanData_cutter (b : Bar) (c : NeedleSet) : (s.takeScanData b c).cutter = s.cutter := by
  unfold State.takeScanData
  repeat' split
  all_goals simp
@[simp] theorem State.takeScanData_bars (b : Bar) (c : NeedleSet) : (s.takeScanData b c).bars = s.bars := by
  unfold State.takeScanData
  repeat' split
  all_goals simp
@[simp] theorem State.takeScanData_masks (b : Bar) (c : NeedleSet) : (s.takeScanData b c).masks = s.masks := by
  unfold State.takeScanData
  repeat' split
  all_goals simp
@[simp] theorem State.takeScanData_link (b : Bar) (c : NeedleSet) : (s.takeScanData b c).link = s.link := by
  unfold State.takeScanData
  repeat' split
  all_goals simp
@[simp] theorem State.takeScanData_strokesDue (b : Bar) (c : NeedleSet) : (s.takeScanData b c).strokesDue = s.strokesDue := by
  unfold State.takeScanData
  repeat' split
  all_goals simp
@[simp] theorem State.takeScanData_choices (b : Bar) (c : NeedleSet) : (s.takeScanData b c).choices = s.choices := by
  unfold State.takeScanData
  repeat' split
  all_goals simp

/-! #### takeConsumption -/

theorem drawNeedle_frame (b : Bar) (c : Nat) (ns : List NeedleNo) (a : State × Bool) :
    ∃ nd ev, (ns.foldl (drawNeedle b c) a).1 = { a.1 with needles := nd, events := ev } := by
  induction ns generalizing a with
  | nil => exact ⟨_, _, rfl⟩
  | cons n ns ih =>
    obtain ⟨nd, ev, h⟩ := ih (drawNeedle b c a n)
    have hs : ∃ nd ev, (drawNeedle b c a n).1 = { a.1 with needles := nd, events := ev } := by
      simp only [drawNeedle, State.raiseIf]
      repeat' split
      all_goals exact ⟨_, _, rfl⟩
    obtain ⟨nd', ev', h'⟩ := hs
    exact ⟨nd, ev, by rw [List.foldl_cons, h, h']⟩

@[simp] theorem State.takeConsumption_pending (n : ConsumptionNotice) : (s.takeConsumption n).pending = s.pending := by
  obtain ⟨_, _, h⟩ := drawNeedle_frame n.bar (threadDrawn n.advance (s.params.threadFactor.get n.bar))
    (members n.frame) (s, false)
  unfold State.takeConsumption
  dsimp only
  split <;> simp [h]
@[simp] theorem State.takeConsumption_inputs (n : ConsumptionNotice) : (s.takeConsumption n).inputs = s.inputs := by
  obtain ⟨_, _, h⟩ := drawNeedle_frame n.bar (threadDrawn n.advance (s.params.threadFactor.get n.bar))
    (members n.frame) (s, false)
  unfold State.takeConsumption
  dsimp only
  split <;> simp [h]
@[simp] theorem State.takeConsumption_w (n : ConsumptionNotice) : (s.takeConsumption n).w = s.w := by
  obtain ⟨_, _, h⟩ := drawNeedle_frame n.bar (threadDrawn n.advance (s.params.threadFactor.get n.bar))
    (members n.frame) (s, false)
  unfold State.takeConsumption
  dsimp only
  split <;> simp [h]
@[simp] theorem State.takeConsumption_params (n : ConsumptionNotice) : (s.takeConsumption n).params = s.params := by
  obtain ⟨_, _, h⟩ := drawNeedle_frame n.bar (threadDrawn n.advance (s.params.threadFactor.get n.bar))
    (members n.frame) (s, false)
  unfold State.takeConsumption
  dsimp only
  split <;> simp [h]
@[simp] theorem State.takeConsumption_store (n : ConsumptionNotice) : (s.takeConsumption n).store = s.store := by
  obtain ⟨_, _, h⟩ := drawNeedle_frame n.bar (threadDrawn n.advance (s.params.threadFactor.get n.bar))
    (members n.frame) (s, false)
  unfold State.takeConsumption
  dsimp only
  split <;> simp [h]
@[simp] theorem State.takeConsumption_table (n : ConsumptionNotice) : (s.takeConsumption n).table = s.table := by
  obtain ⟨_, _, h⟩ := drawNeedle_frame n.bar (threadDrawn n.advance (s.params.threadFactor.get n.bar))
    (members n.frame) (s, false)
  unfold State.takeConsumption
  dsimp only
  split <;> simp [h]
@[simp] theorem State.takeConsumption_cutter (n : ConsumptionNotice) : (s.takeConsumption n).cutter = s.cutter := by
  obtain ⟨_, _, h⟩ := drawNeedle_frame n.bar (threadDrawn n.advance (s.params.threadFactor.get n.bar))
    (members n.frame) (s, false)
  unfold State.takeConsumption
  dsimp only
  split <;> simp [h]
@[simp] theorem State.takeConsumption_bars (n : ConsumptionNotice) : (s.takeConsumption n).bars = s.bars := by
  obtain ⟨_, _, h⟩ := drawNeedle_frame n.bar (threadDrawn n.advance (s.params.threadFactor.get n.bar))
    (members n.frame) (s, false)
  unfold State.takeConsumption
  dsimp only
  split <;> simp [h]
@[simp] theorem State.takeConsumption_scans (n : ConsumptionNotice) : (s.takeConsumption n).scans = s.scans := by
  obtain ⟨_, _, h⟩ := drawNeedle_frame n.bar (threadDrawn n.advance (s.params.threadFactor.get n.bar))
    (members n.frame) (s, false)
  unfold State.takeConsumption
  dsimp only
  split <;> simp [h]
@[simp] theorem State.takeConsumption_masks (n : ConsumptionNotice) : (s.takeConsumption n).masks = s.masks := by
  obtain ⟨_, _, h⟩ := drawNeedle_frame n.bar (threadDrawn n.advance (s.params.threadFactor.get n.bar))
    (members n.frame) (s, false)
  unfold State.takeConsumption
  dsimp only
  split <;> simp [h]
@[simp] theorem State.takeConsumption_link (n : ConsumptionNotice) : (s.takeConsumption n).link = s.link := by
  obtain ⟨_, _, h⟩ := drawNeedle_frame n.bar (threadDrawn n.advance (s.params.threadFactor.get n.bar))
    (members n.frame) (s, false)
  unfold State.takeConsumption
  dsimp only
  split <;> simp [h]
@[simp] theorem State.takeConsumption_strokesDue (n : ConsumptionNotice) : (s.takeConsumption n).strokesDue = s.strokesDue := by
  obtain ⟨_, _, h⟩ := drawNeedle_frame n.bar (threadDrawn n.advance (s.params.threadFactor.get n.bar))
    (members n.frame) (s, false)
  unfold State.takeConsumption
  dsimp only
  split <;> simp [h]
@[simp] theorem State.takeConsumption_choices (n : ConsumptionNotice) : (s.takeConsumption n).choices = s.choices := by
  obtain ⟨_, _, h⟩ := drawNeedle_frame n.bar (threadDrawn n.advance (s.params.threadFactor.get n.bar))
    (members n.frame) (s, false)
  unfold State.takeConsumption
  dsimp only
  split <;> simp [h]

/-! #### takeEcho -/

@[simp] theorem State.takeEcho_pending (b : Bar) (e : NeedleSet) : (s.takeEcho b e).pending = s.pending := by
  unfold State.takeEcho
  dsimp only
  split
  · rfl
  · split <;> simp
@[simp] theorem State.takeEcho_inputs (b : Bar) (e : NeedleSet) : (s.takeEcho b e).inputs = s.inputs := by
  unfold State.takeEcho
  dsimp only
  split
  · rfl
  · split <;> simp
@[simp] theorem State.takeEcho_w (b : Bar) (e : NeedleSet) : (s.takeEcho b e).w = s.w := by
  unfold State.takeEcho
  dsimp only
  split
  · rfl
  · split <;> simp
@[simp] theorem State.takeEcho_params (b : Bar) (e : NeedleSet) : (s.takeEcho b e).params = s.params := by
  unfold State.takeEcho
  dsimp only
  split
  · rfl
  · split <;> simp
@[simp] theorem State.takeEcho_store (b : Bar) (e : NeedleSet) : (s.takeEcho b e).store = s.store := by
  unfold State.takeEcho
  dsimp only
  split
  · rfl
  · split <;> simp
@[simp] theorem State.takeEcho_table (b : Bar) (e : NeedleSet) : (s.takeEcho b e).table = s.table := by
  unfold State.takeEcho
  dsimp only
  split
  · rfl
  · split <;> simp
@[simp] theorem State.takeEcho_cutter (b : Bar) (e : NeedleSet) : (s.takeEcho b e).cutter = s.cutter := by
  unfold State.takeEcho
  dsimp only
  split
  · rfl
  · split <;> simp
@[simp] theorem State.takeEcho_needles (b : Bar) (e : NeedleSet) : (s.takeEcho b e).needles = s.needles := by
  unfold State.takeEcho
  dsimp only
  split
  · rfl
  · split <;> simp
@[simp] theorem State.takeEcho_scans (b : Bar) (e : NeedleSet) : (s.takeEcho b e).scans = s.scans := by
  unfold State.takeEcho
  dsimp only
  split
  · rfl
  · split <;> simp
@[simp] theorem State.takeEcho_masks (b : Bar) (e : NeedleSet) : (s.takeEcho b e).masks = s.masks := by
  unfold State.takeEcho
  dsimp only
  split
  · rfl
  · split <;> simp
@[simp] theorem State.takeEcho_link (b : Bar) (e : NeedleSet) : (s.takeEcho b e).link = s.link := by
  unfold State.takeEcho
  dsimp only
  split
  · rfl
  · split <;> simp
@[simp] theorem State.takeEcho_messages (b : Bar) (e : NeedleSet) : (s.takeEcho b e).messages = s.messages := by
  unfold State.takeEcho
  dsimp only
  split
  · rfl
  · split <;> simp
@[simp] theorem State.takeEcho_strokesDue (b : Bar) (e : NeedleSet) : (s.takeEcho b e).strokesDue = s.strokesDue := by
  unfold State.takeEcho
  dsimp only
  split
  · rfl
  · split <;> simp
@[simp] theorem State.takeEcho_choices (b : Bar) (e : NeedleSet) : (s.takeEcho b e).choices = s.choices := by
  unfold State.takeEcho
  dsimp only
  split
  · rfl
  · split <;> simp

/-! #### deliver -/

@[simp] theorem State.deliver_pending (m : Message) : (s.deliver m).pending = s.pending := by
  cases m <;> simp [State.deliver]
@[simp] theorem State.deliver_inputs (m : Message) : (s.deliver m).inputs = s.inputs := by
  cases m <;> simp [State.deliver]
@[simp] theorem State.deliver_w (m : Message) : (s.deliver m).w = s.w := by
  cases m <;> simp [State.deliver]
@[simp] theorem State.deliver_params (m : Message) : (s.deliver m).params = s.params := by
  cases m <;> simp [State.deliver]
@[simp] theorem State.deliver_store (m : Message) : (s.deliver m).store = s.store := by
  cases m <;> simp [State.deliver]
@[simp] theorem State.deliver_cutter (m : Message) : (s.deliver m).cutter = s.cutter := by
  cases m <;> simp [State.deliver]
@[simp] theorem State.deliver_masks (m : Message) : (s.deliver m).masks = s.masks := by
  cases m <;> simp [State.deliver]
@[simp] theorem State.deliver_link (m : Message) : (s.deliver m).link = s.link := by
  cases m <;> simp [State.deliver]
@[simp] theorem State.deliver_strokesDue (m : Message) : (s.deliver m).strokesDue = s.strokesDue := by
  cases m <;> simp [State.deliver]
@[simp] theorem State.deliver_choices (m : Message) : (s.deliver m).choices = s.choices := by
  cases m <;> simp [State.deliver]

/-! #### flush -/

theorem deliver_frame (ms : List Message) (s : State) :
    ∃ tb ev br nd sc ms', ms.foldl State.deliver s =
      { s with table := tb, events := ev, bars := br, needles := nd, scans := sc, messages := ms' } := by
  induction ms generalizing s with
  | nil => exact ⟨_, _, _, _, _, _, rfl⟩
  | cons m ms ih =>
    obtain ⟨tb, ev, br, nd, sc, ms', h⟩ := ih (s.deliver m)
    refine ⟨tb, ev, br, nd, sc, ms', ?_⟩
    rw [List.foldl_cons, h]
    simp

@[simp] theorem State.flush_pending (b : Bar) : (s.flush b).pending = s.pending := by
  unfold State.flush
  split
  · rfl
  · obtain ⟨_, _, _, _, _, _, h⟩ := deliver_frame (s.ownMessages b) { s with
      messages := s.messages.filter (fun m => !Message.sentBy b m)
      choices := s.choices + 1 }
    rw [h]
@[simp] theorem State.flush_inputs (b : Bar) : (s.flush b).inputs = s.inputs := by
  unfold State.flush
  split
  · rfl
  · obtain ⟨_, _, _, _, _, _, h⟩ := deliver_frame (s.ownMessages b) { s with
      messages := s.messages.filter (fun m => !Message.sentBy b m)
      choices := s.choices + 1 }
    rw [h]
@[simp] theorem State.flush_w (b : Bar) : (s.flush b).w = s.w := by
  unfold State.flush
  split
  · rfl
  · obtain ⟨_, _, _, _, _, _, h⟩ := deliver_frame (s.ownMessages b) { s with
      messages := s.messages.filter (fun m => !Message.sentBy b m)
      choices := s.choices + 1 }
    rw [h]
@[simp] theorem State.flush_params (b : Bar) : (s.flush b).params = s.params := by
  unfold State.flush
  split
  · rfl
  · obtain ⟨_, _, _, _, _, _, h⟩ := deliver_frame (s.ownMessages b) { s with
      messages := s.messages.filter (fun m => !Message.sentBy b m)
      choices := s.choices + 1 }
    rw [h]
@[simp] theorem State.flush_store (b : Bar) : (s.flush b).store = s.store := by
  unfold State.flush
  split
  · rfl
  · obtain ⟨_, _, _, _, _, _, h⟩ := deliver_frame (s.ownMessages b) { s with
      messages := s.messages.filter (fun m => !Message.sentBy b m)
      choices := s.choices + 1 }
    rw [h]
@[simp] theorem State.flush_cutter (b : Bar) : (s.flush b).cutter = s.cutter := by
  unfold State.flush
  split
  · rfl
  · obtain ⟨_, _, _, _, _, _, h⟩ := deliver_frame (s.ownMessages b) { s with
      messages := s.messages.filter (fun m => !Message.sentBy b m)
      choices := s.choices + 1 }
    rw [h]
@[simp] theorem State.flush_masks (b : Bar) : (s.flush b).masks = s.masks := by
  unfold State.flush
  split
  · rfl
  · obtain ⟨_, _, _, _, _, _, h⟩ := deliver_frame (s.ownMessages b) { s with
      messages := s.messages.filter (fun m => !Message.sentBy b m)
      choices := s.choices + 1 }
    rw [h]
@[simp] theorem State.flush_link (b : Bar) : (s.flush b).link = s.link := by
  unfold State.flush
  split
  · rfl
  · obtain ⟨_, _, _, _, _, _, h⟩ := deliver_frame (s.ownMessages b) { s with
      messages := s.messages.filter (fun m => !Message.sentBy b m)
      choices := s.choices + 1 }
    rw [h]
@[simp] theorem State.flush_strokesDue (b : Bar) : (s.flush b).strokesDue = s.strokesDue := by
  unfold State.flush
  split
  · rfl
  · obtain ⟨_, _, _, _, _, _, h⟩ := deliver_frame (s.ownMessages b) { s with
      messages := s.messages.filter (fun m => !Message.sentBy b m)
      choices := s.choices + 1 }
    rw [h]

/-! #### idle -/

@[simp] theorem State.idle_pending : s.idle.pending = s.pending := by
  unfold State.idle
  repeat' split
  all_goals simp
@[simp] theorem State.idle_inputs : s.idle.inputs = s.inputs := by
  unfold State.idle
  repeat' split
  all_goals simp
@[simp] theorem State.idle_w : s.idle.w = s.w := by
  unfold State.idle
  repeat' split
  all_goals simp
@[simp] theorem State.idle_params : s.idle.params = s.params := by
  unfold State.idle
  repeat' split
  all_goals simp
@[simp] theorem State.idle_store : s.idle.store = s.store := by
  unfold State.idle
  repeat' split
  all_goals simp
@[simp] theorem State.idle_cutter : s.idle.cutter = s.cutter := by
  unfold State.idle
  repeat' split
  all_goals simp
@[simp] theorem State.idle_masks : s.idle.masks = s.masks := by
  unfold State.idle
  repeat' split
  all_goals simp
@[simp] theorem State.idle_link : s.idle.link = s.link := by
  unfold State.idle
  repeat' split
  all_goals simp
@[simp] theorem State.idle_strokesDue : s.idle.strokesDue = s.strokesDue := by
  unfold State.idle
  repeat' split
  all_goals simp

/-! #### evaluateStroke -/

@[simp] theorem State.evaluateStroke_pending (b : Bar) : (s.evaluateStroke b).pending = s.pending := by
  simp [State.evaluateStroke]
@[simp] theorem State.evaluateStroke_inputs (b : Bar) : (s.evaluateStroke b).inputs = s.inputs := by
  simp [State.evaluateStroke]
@[simp] theorem State.evaluateStroke_w (b : Bar) : (s.evaluateStroke b).w = s.w := by
  simp [State.evaluateStroke]
@[simp] theorem State.evaluateStroke_params (b : Bar) : (s.evaluateStroke b).params = s.params := by
  simp [State.evaluateStroke]
@[simp] theorem State.evaluateStroke_store (b : Bar) : (s.evaluateStroke b).store = s.store := by
  simp [State.evaluateStroke]
@[simp] theorem State.evaluateStroke_table (b : Bar) : (s.evaluateStroke b).table = s.table := by
  simp [State.evaluateStroke]
@[simp] theorem State.evaluateStroke_cutter (b : Bar) : (s.evaluateStroke b).cutter = s.cutter := by
  simp [State.evaluateStroke]
@[simp] theorem State.evaluateStroke_needles (b : Bar) : (s.evaluateStroke b).needles = s.needles := by
  simp [State.evaluateStroke]
@[simp] theorem State.evaluateStroke_scans (b : Bar) : (s.evaluateStroke b).scans = s.scans := by
  simp [State.evaluateStroke]
@[simp] theorem State.evaluateStroke_masks (b : Bar) : (s.evaluateStroke b).masks = s.masks := by
  simp [State.evaluateStroke]
@[simp] theorem State.evaluateStroke_link (b : Bar) : (s.evaluateStroke b).link = s.link := by
  simp [State.evaluateStroke]
@[simp] theorem State.evaluateStroke_strokesDue (b : Bar) : (s.evaluateStroke b).strokesDue = s.strokesDue := by
  simp [State.evaluateStroke]
@[simp] theorem State.evaluateStroke_choices (b : Bar) : (s.evaluateStroke b).choices = s.choices := by
  simp [State.evaluateStroke]

/-! #### strokeEdge -/

@[simp] theorem State.strokeEdge_pending : s.strokeEdge.pending = s.pending := by
  unfold State.strokeEdge
  repeat' split
  all_goals simp
@[simp] theorem State.strokeEdge_w : s.strokeEdge.w = s.w := by
  unfold State.strokeEdge
  repeat' split
  all_goals simp
@[simp] theorem State.strokeEdge_params : s.strokeEdge.params = s.params := by
  unfold State.strokeEdge
  repeat' split
  all_goals simp
@[simp] theorem State.strokeEdge_store : s.strokeEdge.store = s.store := by
  unfold State.strokeEdge
  repeat' split
  all_goals simp
@[simp] theorem State.strokeEdge_table : s.strokeEdge.table = s.table := by
  unfold State.strokeEdge
  repeat' split
  all_goals simp
@[simp] theorem State.strokeEdge_cutter : s.strokeEdge.cutter = s.cutter := by
  unfold State.strokeEdge
  repeat' split
  all_goals simp
@[simp] theorem State.strokeEdge_bars : s.strokeEdge.bars = s.bars := by
  unfold State.strokeEdge
  repeat' split
  all_goals simp
@[simp] theorem State.strokeEdge_needles : s.strokeEdge.needles = s.needles := by
  unfold State.strokeEdge
  repeat' split
  all_goals simp
@[simp] theorem State.strokeEdge_scans : s.strokeEdge.scans = s.scans := by
  unfold State.strokeEdge
  repeat' split
  all_goals simp
@[simp] theorem State.strokeEdge_events : s.strokeEdge.events = s.events := by
  unfold State.strokeEdge
  repeat' split
  all_goals simp
@[simp] theorem State.strokeEdge_masks : s.strokeEdge.masks = s.masks := by
  unfold State.strokeEdge
  repeat' split
  all_goals simp
@[simp] theorem State.strokeEdge_link : s.strokeEdge.link = s.link := by
  unfold State.strokeEdge
  repeat' split
  all_goals simp
@[simp] theorem State.strokeEdge_messages : s.strokeEdge.messages = s.messages := by
  unfold State.strokeEdge
  repeat' split
  all_goals simp
@[simp] theorem State.strokeEdge_choices : s.strokeEdge.choices = s.choices := by
  unfold State.strokeEdge
  repeat' split
  all_goals simp

/-! #### takeStroke -/

@[simp] theorem State.takeStroke_pending (b : Bar) : (s.takeStroke b).pending = s.pending := by
  simp [State.takeStroke]
@[simp] theorem State.takeStroke_inputs (b : Bar) : (s.takeStroke b).inputs = s.inputs := by
  simp [State.takeStroke]
@[simp] theorem State.takeStroke_w (b : Bar) : (s.takeStroke b).w = s.w := by
  simp [State.takeStroke]
@[simp] theorem State.takeStroke_params (b : Bar) : (s.takeStroke b).params = s.params := by
  simp [State.takeStroke]
@[simp] theorem State.takeStroke_store (b : Bar) : (s.takeStroke b).store = s.store := by
  simp [State.takeStroke]
@[simp] theorem State.takeStroke_cutter (b : Bar) : (s.takeStroke b).cutter = s.cutter := by
  simp [State.takeStroke]
@[simp] theorem State.takeStroke_masks (b : Bar) : (s.takeStroke b).masks = s.masks := by
  simp [State.takeStroke]
@[simp] theorem State.takeStroke_link (b : Bar) : (s.takeStroke b).link = s.link := by
  simp [State.takeStroke]

/-! #### strokeEvent -/

@[simp] theorem State.strokeEvent_pending (b : Bar) : (s.strokeEvent b).pending = s.pending := by
  dsimp only [State.strokeEvent]
  split_ifs <;> simp
@[simp] theorem State.strokeEvent_w (b : Bar) : (s.strokeEvent b).w = s.w := by
  dsimp only [State.strokeEvent]
  split_ifs <;> simp
@[simp] theorem State.strokeEvent_params (b : Bar) : (s.strokeEvent b).params = s.params := by
  dsimp only [State.strokeEvent]
  split_ifs <;> simp
@[simp] theorem State.strokeEvent_store (b : Bar) : (s.strokeEvent b).store = s.store := by
  dsimp only [State.strokeEvent]
  split_ifs <;> simp
@[simp] theorem State.strokeEvent_cutter (b : Bar) : (s.strokeEvent b).cutter = s.cutter := by
  dsimp only [State.strokeEvent]
  split_ifs <;> simp
@[simp] theorem State.strokeEvent_masks (b : Bar) : (s.strokeEvent b).masks = s.masks := by
  dsimp only [State.strokeEvent]
  split_ifs <;> simp
@[simp] theorem State.strokeEvent_link (b : Bar) : (s.strokeEvent b).link = s.link := by
  dsimp only [State.strokeEvent]
  split_ifs <;> simp

/-! #### acknowledge -/

theorem acknowledge_frame (f : SourceSet) (es : List Sticky) (s : State) :
    ∃ ev, es.foldl (fun t e => if f.getLsbD e.number then t.setEvent e ⟨0, (t.event e).detail⟩ else t) s
      = { s with events := ev } := by
  induction es generalizing s with
  | nil => exact ⟨_, rfl⟩
  | cons e es ih =>
    rw [List.foldl_cons]
    split
    · obtain ⟨ev, h⟩ := ih (s.setEvent e ⟨0, (s.event e).detail⟩)
      exact ⟨ev, by rw [h]; rfl⟩
    · exact ih s

@[simp] theorem State.acknowledge_pending (f : SourceSet) : (s.acknowledge f).pending = s.pending := by
  obtain ⟨_, h⟩ := acknowledge_frame f Sticky.all s
  rw [State.acknowledge, h]
@[simp] theorem State.acknowledge_inputs (f : SourceSet) : (s.acknowledge f).inputs = s.inputs := by
  obtain ⟨_, h⟩ := acknowledge_frame f Sticky.all s
  rw [State.acknowledge, h]
@[simp] theorem State.acknowledge_w (f : SourceSet) : (s.acknowledge f).w = s.w := by
  obtain ⟨_, h⟩ := acknowledge_frame f Sticky.all s
  rw [State.acknowledge, h]
@[simp] theorem State.acknowledge_params (f : SourceSet) : (s.acknowledge f).params = s.params := by
  obtain ⟨_, h⟩ := acknowledge_frame f Sticky.all s
  rw [State.acknowledge, h]
@[simp] theorem State.acknowledge_store (f : SourceSet) : (s.acknowledge f).store = s.store := by
  obtain ⟨_, h⟩ := acknowledge_frame f Sticky.all s
  rw [State.acknowledge, h]
@[simp] theorem State.acknowledge_table (f : SourceSet) : (s.acknowledge f).table = s.table := by
  obtain ⟨_, h⟩ := acknowledge_frame f Sticky.all s
  rw [State.acknowledge, h]
@[simp] theorem State.acknowledge_cutter (f : SourceSet) : (s.acknowledge f).cutter = s.cutter := by
  obtain ⟨_, h⟩ := acknowledge_frame f Sticky.all s
  rw [State.acknowledge, h]
@[simp] theorem State.acknowledge_bars (f : SourceSet) : (s.acknowledge f).bars = s.bars := by
  obtain ⟨_, h⟩ := acknowledge_frame f Sticky.all s
  rw [State.acknowledge, h]
@[simp] theorem State.acknowledge_needles (f : SourceSet) : (s.acknowledge f).needles = s.needles := by
  obtain ⟨_, h⟩ := acknowledge_frame f Sticky.all s
  rw [State.acknowledge, h]
@[simp] theorem State.acknowledge_scans (f : SourceSet) : (s.acknowledge f).scans = s.scans := by
  obtain ⟨_, h⟩ := acknowledge_frame f Sticky.all s
  rw [State.acknowledge, h]
@[simp] theorem State.acknowledge_masks (f : SourceSet) : (s.acknowledge f).masks = s.masks := by
  obtain ⟨_, h⟩ := acknowledge_frame f Sticky.all s
  rw [State.acknowledge, h]
@[simp] theorem State.acknowledge_link (f : SourceSet) : (s.acknowledge f).link = s.link := by
  obtain ⟨_, h⟩ := acknowledge_frame f Sticky.all s
  rw [State.acknowledge, h]
@[simp] theorem State.acknowledge_messages (f : SourceSet) : (s.acknowledge f).messages = s.messages := by
  obtain ⟨_, h⟩ := acknowledge_frame f Sticky.all s
  rw [State.acknowledge, h]
@[simp] theorem State.acknowledge_strokesDue (f : SourceSet) : (s.acknowledge f).strokesDue = s.strokesDue := by
  obtain ⟨_, h⟩ := acknowledge_frame f Sticky.all s
  rw [State.acknowledge, h]
@[simp] theorem State.acknowledge_choices (f : SourceSet) : (s.acknowledge f).choices = s.choices := by
  obtain ⟨_, h⟩ := acknowledge_frame f Sticky.all s
  rw [State.acknowledge, h]

/-! #### lineClear -/

@[simp] theorem State.lineClear_pending : s.lineClear.pending = s.pending := rfl
@[simp] theorem State.lineClear_inputs : s.lineClear.inputs = s.inputs := rfl
@[simp] theorem State.lineClear_w : s.lineClear.w = s.w := rfl
@[simp] theorem State.lineClear_params : s.lineClear.params = s.params := rfl
@[simp] theorem State.lineClear_needles : s.lineClear.needles = s.needles := rfl
@[simp] theorem State.lineClear_events : s.lineClear.events = s.events := rfl
@[simp] theorem State.lineClear_masks : s.lineClear.masks = s.masks := rfl
@[simp] theorem State.lineClear_link : s.lineClear.link = s.link := rfl
@[simp] theorem State.lineClear_messages : s.lineClear.messages = s.messages := rfl
@[simp] theorem State.lineClear_strokesDue : s.lineClear.strokesDue = s.strokesDue := rfl
@[simp] theorem State.lineClear_choices : s.lineClear.choices = s.choices := rfl

/-! #### enterTransaction -/

@[simp] theorem State.enterTransaction_pending : s.enterTransaction.pending = s.pending := by
  unfold State.enterTransaction
  repeat' split
  all_goals simp
@[simp] theorem State.enterTransaction_inputs : s.enterTransaction.inputs = s.inputs := by
  unfold State.enterTransaction
  repeat' split
  all_goals simp
@[simp] theorem State.enterTransaction_w : s.enterTransaction.w = s.w := by
  unfold State.enterTransaction
  repeat' split
  all_goals simp
@[simp] theorem State.enterTransaction_params : s.enterTransaction.params = s.params := by
  unfold State.enterTransaction
  repeat' split
  all_goals simp
@[simp] theorem State.enterTransaction_store : s.enterTransaction.store = s.store := by
  unfold State.enterTransaction
  repeat' split
  all_goals simp
@[simp] theorem State.enterTransaction_table : s.enterTransaction.table = s.table := by
  unfold State.enterTransaction
  repeat' split
  all_goals simp
@[simp] theorem State.enterTransaction_cutter : s.enterTransaction.cutter = s.cutter := by
  unfold State.enterTransaction
  repeat' split
  all_goals simp
@[simp] theorem State.enterTransaction_bars : s.enterTransaction.bars = s.bars := by
  unfold State.enterTransaction
  repeat' split
  all_goals simp
@[simp] theorem State.enterTransaction_needles : s.enterTransaction.needles = s.needles := by
  unfold State.enterTransaction
  repeat' split
  all_goals simp
@[simp] theorem State.enterTransaction_scans : s.enterTransaction.scans = s.scans := by
  unfold State.enterTransaction
  repeat' split
  all_goals simp
@[simp] theorem State.enterTransaction_events : s.enterTransaction.events = s.events := by
  unfold State.enterTransaction
  repeat' split
  all_goals simp
@[simp] theorem State.enterTransaction_masks : s.enterTransaction.masks = s.masks := by
  unfold State.enterTransaction
  repeat' split
  all_goals simp
@[simp] theorem State.enterTransaction_messages : s.enterTransaction.messages = s.messages := by
  unfold State.enterTransaction
  repeat' split
  all_goals simp
@[simp] theorem State.enterTransaction_strokesDue : s.enterTransaction.strokesDue = s.strokesDue := by
  unfold State.enterTransaction
  repeat' split
  all_goals simp
@[simp] theorem State.enterTransaction_choices : s.enterTransaction.choices = s.choices := by
  unfold State.enterTransaction
  repeat' split
  all_goals simp

/-! #### frameErrorTaken -/

@[simp] theorem State.frameErrorTaken_pending (e : LinkError) : (s.frameErrorTaken e).pending = s.pending := by
  dsimp only [State.frameErrorTaken]
  split_ifs <;> simp
@[simp] theorem State.frameErrorTaken_inputs (e : LinkError) : (s.frameErrorTaken e).inputs = s.inputs := by
  dsimp only [State.frameErrorTaken]
  split_ifs <;> simp
@[simp] theorem State.frameErrorTaken_w (e : LinkError) : (s.frameErrorTaken e).w = s.w := by
  dsimp only [State.frameErrorTaken]
  split_ifs <;> simp
@[simp] theorem State.frameErrorTaken_params (e : LinkError) : (s.frameErrorTaken e).params = s.params := by
  dsimp only [State.frameErrorTaken]
  split_ifs <;> simp
@[simp] theorem State.frameErrorTaken_store (e : LinkError) : (s.frameErrorTaken e).store = s.store := by
  dsimp only [State.frameErrorTaken]
  split_ifs <;> simp
@[simp] theorem State.frameErrorTaken_table (e : LinkError) : (s.frameErrorTaken e).table = s.table := by
  dsimp only [State.frameErrorTaken]
  split_ifs <;> simp
@[simp] theorem State.frameErrorTaken_cutter (e : LinkError) : (s.frameErrorTaken e).cutter = s.cutter := by
  dsimp only [State.frameErrorTaken]
  split_ifs <;> simp
@[simp] theorem State.frameErrorTaken_needles (e : LinkError) : (s.frameErrorTaken e).needles = s.needles := by
  dsimp only [State.frameErrorTaken]
  split_ifs <;> simp
@[simp] theorem State.frameErrorTaken_scans (e : LinkError) : (s.frameErrorTaken e).scans = s.scans := by
  dsimp only [State.frameErrorTaken]
  split_ifs <;> simp
@[simp] theorem State.frameErrorTaken_masks (e : LinkError) : (s.frameErrorTaken e).masks = s.masks := by
  dsimp only [State.frameErrorTaken]
  split_ifs <;> simp
@[simp] theorem State.frameErrorTaken_messages (e : LinkError) : (s.frameErrorTaken e).messages = s.messages := by
  dsimp only [State.frameErrorTaken]
  split_ifs <;> simp
@[simp] theorem State.frameErrorTaken_strokesDue (e : LinkError) : (s.frameErrorTaken e).strokesDue = s.strokesDue := by
  dsimp only [State.frameErrorTaken]
  split_ifs <;> simp
@[simp] theorem State.frameErrorTaken_choices (e : LinkError) : (s.frameErrorTaken e).choices = s.choices := by
  dsimp only [State.frameErrorTaken]
  split_ifs <;> simp

end Sys2Proof.Machine
end

