-- ==== Sys2Proof/Laws/Port.lean ====
section
/-! SUPPORT. What a request comes to: its owner answers, and the port alone changes besides what the owner
changes. -/

namespace Sys2Proof.Machine

variable (s : State)

/-- The port after the transaction a request is received in has been entered and the request answered
(R160, R163). -/
theorem State.enterTransaction_respond (kind tag : Byte) (st : Status) (p : List Byte) :
    { s.enterTransaction.link with slot := ⟨kind, tag, st, p⟩, phase := .answered }
      = s.link.answered kind tag st p := by
  unfold State.enterTransaction LinkPort.answered
  by_cases h : s.link.phase = .opened <;> simp [h]

theorem State.listening_of_takesFrames {s : State} (h : s.takesFrames) : s.listening = true := by
  simp [State.listening, h.1, h.2]

/-- A request that its owner answers: the state the owner leaves, with the port answered. -/
theorem request_next {s : State} (h : s.takesFrames) {kind tag : Byte} {owner : State → Answer} {u : State}
    {st : Status} {p : List Byte} (ho : owner s.enterTransaction = ⟨u, st, p⟩)
    (hu : u.link = s.enterTransaction.link) :
    request kind tag owner s = .next { u with link := s.link.answered kind tag st p } := by
  simp only [request, State.listening_of_takesFrames h, if_true, ho, State.respond, hu,
    State.enterTransaction_respond]

/-- A request whose owner changes nothing: a report or a refusal. -/
theorem request_report {s : State} (h : s.takesFrames) {kind tag : Byte} {owner : State → Answer}
    {st : Status} {p : List Byte} (ho : owner s.enterTransaction = ⟨s.enterTransaction, st, p⟩) :
    request kind tag owner s = .next (s.answered kind tag st p) := by
  rw [request_next h ho rfl]
  simp [State.answered]

/-- A request while the port takes no frames is not seen, and leaves LK_SEL low in a transaction that is ignored. -/
theorem request_ignored {s : State} (h : ¬ s.takesFrames) (kind tag : Byte) (owner : State → Answer) :
    request kind tag owner s = .next s.ignoreTransaction := by
  have : s.listening = false := by
    unfold State.takesFrames at h
    unfold State.listening
    cases hr : s.inputs.operates <;> simp_all
  simp [request, this]

/-- The end of a transaction: the bits are judged while the port still receives a frame, and LK_SEL alone rises in a
transaction whose frame has executed, in an ignored one, and while the part does not operate (R157, R158). -/
theorem execFrameError_cases (bits : List Bool) (s : State) :
    execFrameError bits s = .next (s.transactionEnd (wholeBytes bits)) ∧ s.takesFrames ∧ s.link.phase ≠ .answered
      ∨ execFrameError bits s = .next s.endTransaction ∧ (s.link.phase = .answered ∨ ¬ s.takesFrames) := by
  unfold execFrameError State.receiving State.listening State.takesFrames
  cases s.inputs.operates <;> cases s.link.phase <;> simp

/-- Once it has executed a frame the port takes nothing more of that transaction: whatever is clocked in, LK_SEL alone
rises (R157). -/
theorem execFrameError_answered {s : State} (h : s.link.phase = .answered) (bits : List Bool) :
    execFrameError bits s = .next s.endTransaction := by
  simp [execFrameError, State.receiving, h]

/-- An arrival while the part operates. -/
theorem arrival_next {s : State} (h : s.inputs.operates = true) (f : State → State) : arrival s f = .next (f s) := by
  simp [arrival, h]

/-- The part takes no arrival while it does not operate. -/
theorem arrival_ignored {s : State} (h : s.inputs.operates = false) (f : State → State) : arrival s f = .next s := by
  simp [arrival, h]

/-! ### Outputs -/

@[simp] theorem SensorChain.scan_abandon (c : SensorChain) : c.abandon.scan = none := by cases c <;> rfl

@[simp] theorem SensorChain.abandon_bne_atRest (c : SensorChain) : (c.abandon != .atRest) = (c != .atRest) := by
  cases c <;> rfl

/-- LINECLEAR leaves the chains that are clocked as they are: the clocking runs to its end (R133). -/
theorem State.lineClear_scanOut (b : Bar) : s.lineClear.scanOut b = s.scanOut b := by
  cases b <;> simp [State.scanOut, State.lineClear, PerBar.map, PerBar.get]

/-- While the part does not operate every output is low, idle or not driven (R172). -/
theorem outputs_idle {s : State} (h : s.inputs.operates = false) : s.cutRequest = false
    ∧ (∀ n, s.attentionLine n = false) ∧ (∀ n, s.lineOut n = none) ∧ (∀ b, s.driveOut b = none)
    ∧ (∀ b n, s.driveBit b n = none) ∧ (∀ b, s.selectOut b = none) ∧ ∀ b, s.scanOut b = false := by
  simp [State.cutRequest, State.attentionLine, State.lineOut, State.drivesLine, State.driveOut, State.driveBit,
    State.selectOut, State.scanOut, h]

/-- The bits of a lateral command, most significant bit first (R103). -/
theorem driveBit_of_driveOut {s : State} {b : Bar} {command : BitVec 16} (h : s.driveOut b = some command) {n : Nat}
    (hn : n < 16) : s.driveBit b n = some (command.getLsbD (15 - n)) := by
  simp [State.driveBit, h, hn]

/-! ### Bits and bytes -/

/-- A byte's bits spell it. -/
theorem byteOfBits_byteBits (b : Byte) : byteOfBits (byteBits b) = b := by
  revert b
  decide +kernel

/-- The bytes clocked in, with the bits of an incomplete last byte discarded (R157). -/
theorem wholeBytes_bitsOf (bytes : List Byte) {odd : List Bool} (h : odd.length < 8) :
    wholeBytes (bitsOf bytes ++ odd) = bytes := by
  induction bytes with
  | nil =>
    match odd, h with
    | [], _ | [_], _ | [_, _], _ | [_, _, _], _ | [_, _, _, _], _ | [_, _, _, _, _], _ | [_, _, _, _, _, _], _
    | [_, _, _, _, _, _, _], _ => rfl
    | _ :: _ :: _ :: _ :: _ :: _ :: _ :: _ :: _, h => simp at h; omega
  | cons b rest ih =>
    show byteOfBits (byteBits b) :: wholeBytes (bitsOf rest ++ odd) = b :: rest
    rw [byteOfBits_byteBits, ih]

end Sys2Proof.Machine
end

