-- ==== Sys2Proof/Laws/Ops.lean ====
section
/-! SUPPORT. What each shared operation on the panel table and the cutter sequence comes to. -/

namespace Sys2Proof.Machine

variable {s : State}

/-! ### Records by their head -/

theorem updateHead_of_pre {head : Word} (f : PanelRecord → PanelRecord) (r : PanelRecord)
    {pre post : List PanelRecord} (hp : ∀ q ∈ pre, q.head ≠ head) (hr : r.head = head) :
    updateHead head f (pre ++ r :: post) = pre ++ f r :: post := by
  induction pre with
  | nil => simp [updateHead, hr]
  | cons q pre ih =>
    simp only [List.cons_append, updateHead, hp q List.mem_cons_self, if_false]
    rw [ih (fun q hq => hp q (List.mem_cons_of_mem _ hq))]

theorem updateHead_of_absent {head : Word} (f : PanelRecord → PanelRecord) {l : List PanelRecord}
    (hl : ∀ q ∈ l, q.head ≠ head) : updateHead head f l = l := by
  induction l with
  | nil => rfl
  | cons q l ih =>
    simp only [updateHead, hl q List.mem_cons_self, if_false]
    rw [ih (fun q hq => hl q (List.mem_cons_of_mem _ hq))]

/-- A record of a queue is unchanged by an update of one head, or is the update of a record with that head. -/
theorem mem_updateHead {head : Word} {f : PanelRecord → PanelRecord} {l : List PanelRecord} {q : PanelRecord}
    (h : q ∈ updateHead head f l) : q ∈ l ∨ ∃ r ∈ l, r.head = head ∧ q = f r := by
  induction l with
  | nil => exact absurd h List.not_mem_nil
  | cons r l ih =>
    unfold updateHead at h
    split at h
    · rcases List.mem_cons.mp h with rfl | h
      · exact .inr ⟨r, List.mem_cons_self, ‹_›, rfl⟩
      · exact .inl (List.mem_cons_of_mem _ h)
    · rcases List.mem_cons.mp h with rfl | h
      · exact .inl List.mem_cons_self
      · rcases ih h with h | ⟨r', hr', e, rfl⟩
        · exact .inl (List.mem_cons_of_mem _ h)
        · exact .inr ⟨r', List.mem_cons_of_mem _ hr', e, rfl⟩

/-- An update of one head that keeps a field keeps the list of that field. -/
theorem map_updateHead {α : Type} (g : PanelRecord → α) {head : Word} {f : PanelRecord → PanelRecord}
    (hf : ∀ r, g (f r) = g r) (l : List PanelRecord) : (updateHead head f l).map g = l.map g := by
  induction l with
  | nil => rfl
  | cons r l ih =>
    unfold updateHead
    split <;> simp [hf, ih]

theorem State.findRecord_of_pre {r : PanelRecord} {pre post : List PanelRecord}
    (ht : s.table.records = pre ++ r :: post) (hp : ∀ q ∈ pre, q.head ≠ r.head) :
    s.findRecord r.head = some r := by
  rw [State.findRecord, ht, List.find?_append]
  have : pre.find? (fun q => decide (q.head = r.head)) = none := by
    rw [List.find?_eq_none]
    intro q hq
    simp [hp q hq]
  simp [this]

theorem State.findRecord_absent {head : Word} (h : ∀ q ∈ s.table.records, q.head ≠ head) :
    s.findRecord head = none := by
  rw [State.findRecord, List.find?_eq_none]
  intro q hq
  simp [h q hq]

theorem State.findRecord_some {head : Word} {r : PanelRecord} (h : s.findRecord head = some r) :
    r ∈ s.table.records ∧ r.head = head := by
  refine ⟨List.mem_of_find?_eq_some h, ?_⟩
  simpa using List.find?_some h

theorem State.findRecord_front {r : PanelRecord} {rest : List PanelRecord}
    (ht : s.table.records = r :: rest) : s.findRecord r.head = some r :=
  State.findRecord_of_pre (pre := []) ht (by simp)

/-- A fold into the live record of a head (R52). -/
theorem State.fold_of_pre {r : PanelRecord} {pre post : List PanelRecord}
    (ht : s.table.records = pre ++ r :: post) (hp : ∀ q ∈ pre, q.head ≠ r.head) (b : Option Bar)
    (k : DefectSet) (y : Int) :
    s.fold r.head b k y = (s.setRecords (pre ++ r.fold b k y :: post)).raiseIf
      (r.first.isNone && (lowestKind k).isSome) .panelDefect (some (.tag r.tag)) := by
  rw [State.fold, State.findRecord_of_pre ht hp]
  dsimp only
  rw [State.updateRecord, ht, updateHead_of_pre _ _ hp rfl]

theorem State.fold_front {r : PanelRecord} {rest : List PanelRecord} (ht : s.table.records = r :: rest)
    (b : Option Bar) (k : DefectSet) (y : Int) :
    s.fold r.head b k y = (s.setRecords (r.fold b k y :: rest)).raiseIf
      (r.first.isNone && (lowestKind k).isSome) .panelDefect (some (.tag r.tag)) :=
  State.fold_of_pre (pre := []) ht (by simp) b k y

/-! ### Retirement -/

/-- Retirement of the record at the front (R142). -/
theorem State.retire_front {r : PanelRecord} {rest : List PanelRecord} (ht : s.table.records = r :: rest)
    (o : CutOutcome) :
    s.retire o = (({ s with
      cutter := ⟨.idle, none, some (r.summary o s.w), s.cutter.retirements + 1⟩
      table := { s.table with records := rest }
      store := s.store.releaseRecord r }).raise .panelRetired (some (.tag r.tag))).restarve := by
  rw [State.retire, ht]

/-- A missed cut of the record at the front (R141). -/
theorem State.missCut_front {r : PanelRecord} {rest : List PanelRecord} (ht : s.table.records = r :: rest)
    (o : CutOutcome) :
    (s.missCut o).cutter = ⟨.idle, none,
        some ((r.fold none DefectKind.cutMissed.bit (webDist s.cutterPosition r.head)).summary o s.w),
        s.cutter.retirements + 1⟩
      ∧ (s.missCut o).table.records = rest
      ∧ (s.missCut o).store = s.store.releaseRecord r
      ∧ (s.missCut o).event .cutMissed = (s.event .cutMissed).raise (some (.tag r.tag))
      ∧ (s.missCut o).event .panelRetired = (s.event .panelRetired).raise (some (.tag r.tag)) := by
  have h : s.missCut o = ((s.fold r.head none DefectKind.cutMissed.bit (webDist s.cutterPosition r.head)).raise
      .cutMissed (some (.tag r.tag))).retire o := by rw [State.missCut, ht]
  rw [h, State.fold_front ht,
    State.retire_front (r := r.fold none DefectKind.cutMissed.bit (webDist s.cutterPosition r.head))
      (rest := rest) (by simp)]
  refine ⟨by simp, by simp, ?_, ?_, ?_⟩
  · simp only [State.restarve_store, State.raise_store]
    simp only [State.raiseIf_store, State.setRecords_store]
    rfl
  · have e : ∀ u : State, u.restarve.event = u.event := fun _ => rfl
    rw [e, State.event_raise_of_ne _ _ (by decide)]
    show ((State.raiseIf _ _ _ _).raise _ _).event _ = _
    rw [State.event_raise_self]
    congr 1
    unfold State.raiseIf
    split
    · rw [State.event_raise_of_ne _ _ (by decide)]
      rfl
    · rfl
  · have e : ∀ u : State, u.restarve.event = u.event := fun _ => rfl
    rw [e, State.event_raise_self]
    show ((State.raise (State.raiseIf _ _ _ _) _ _).event _).raise _ = _
    rw [State.event_raise_of_ne _ _ (by decide)]
    unfold State.raiseIf
    split
    · rw [State.event_raise_of_ne _ _ (by decide)]
      rfl
    · rfl

/-! ### A cut becoming pending -/

/-- What settling one bar makes of the record (R137). -/
def PanelRecord.settled (r : PanelRecord) (b : Bar) (y : Int) : PanelRecord :=
  match (r.bars.get b).status with
  | .notReached => (r.setStatus b .skipped).fold (some b) DefectKind.barSkipped.bit y
  | .sewing => (r.setStatus b .short).fold (some b) DefectKind.barShort.bit y
  | _ => r

@[simp] theorem PanelRecord.settled_head (r : PanelRecord) (b : Bar) (y : Int) :
    (r.settled b y).head = r.head := by
  unfold PanelRecord.settled
  split <;> rfl

/-- Settling one bar of the record at the front (R137). -/
theorem State.settle_front {r : PanelRecord} {rest : List PanelRecord} (ht : s.table.records = r :: rest)
    (b : Bar) :
    (s.settle r.head b).table.records = r.settled b (webDist (s.linePosition b) r.head) :: rest := by
  have hf := State.findRecord_front ht
  unfold State.settle PanelRecord.settled
  rw [hf]
  dsimp only
  have hu : ∀ st, (s.updateRecord r.head (·.setStatus b st)).table.records = r.setStatus b st :: rest := by
    intro st
    simp [ht, updateHead]
  split
  · have := State.fold_front (hu .skipped) (some b) DefectKind.barSkipped.bit (webDist (s.linePosition b) r.head)
    rw [show (r.setStatus b .skipped).head = r.head from rfl] at this
    rw [this]
    simp [*]
  · have := State.fold_front (hu .short) (some b) DefectKind.barShort.bit (webDist (s.linePosition b) r.head)
    rw [show (r.setStatus b .short).head = r.head from rfl] at this
    rw [this]
    simp [*]
  · first
    | exact ht
    | (split <;> first | contradiction | exact ht)

/-- The record at the front when its cut becomes pending (R136, R137). -/
theorem State.makePending_front {r : PanelRecord} {rest : List PanelRecord}
    (ht : s.table.records = r :: rest) (n : CutterState) :
    (s.makePending n).cutter = { s.cutter with state := n, pendingHead := some r.head }
      ∧ (s.makePending n).table.records
        = ((({ r with cutPending := true }.settled .A (webDist (s.linePosition .A) r.head)).settled .B
            (webDist (s.linePosition .B) r.head)).settled .C (webDist (s.linePosition .C) r.head)) :: rest := by
  unfold State.makePending
  rw [ht]
  dsimp only [Bar.all, List.foldl]
  refine ⟨by simp, ?_⟩
  let q : PanelRecord := { r with cutPending := true }
  let t : State := { s with
    cutter := { s.cutter with state := n, pendingHead := some r.head }
    table := { s.table with records := q :: rest } }
  have lp : ∀ (u : State) (b : Bar), u.w = s.w → u.params = s.params → u.linePosition b = s.linePosition b := by
    intro u b h1 h2
    simp [State.linePosition, h1, h2]
  have h1 := State.settle_front (s := t) (r := q) (rest := rest) rfl .A
  have h2 := State.settle_front h1 .B
  have h3 := State.settle_front h2 .C
  simp only [PanelRecord.settled_head] at h2 h3
  rw [lp t .A rfl rfl] at h1 h2 h3
  rw [lp (t.settle q.head .A) .B (by simp [t]) (by simp [t])] at h2 h3
  rw [lp ((t.settle q.head .A).settle q.head .B) .C (by simp [t]) (by simp [t])] at h3
  exact h3

/-! ### A W arrival -/

/-- The cutter, the table's records, the store and the bars are after a W arrival as the cut point leaves
them (R4, R135). -/
theorem State.wArrival_cutPoint (s : State) :
    s.wArrival.cutter = s.cutPoint.cutter ∧ s.wArrival.table.records = s.cutPoint.table.records
      ∧ s.wArrival.store = s.cutPoint.store := by
  refine ⟨by simp [State.wArrival], ?_, by simp [State.wArrival]⟩
  simp [State.wArrival]

/-- A retirement, a fold and a cut becoming pending raise no source but these. -/
theorem State.event_raiseIf_of_ne (s : State) {e d : Sticky} (c : Bool) (x : Option Detail) (h : d ≠ e) :
    (s.raiseIf c e x).event d = s.event d := by
  unfold State.raiseIf
  split
  · exact State.event_raise_of_ne s x h
  · rfl

theorem State.wArrival_event (s : State) {d : Sticky} (h : d ≠ .starve) :
    s.wArrival.event d = s.cutPoint.event d :=
  State.event_raiseIf_of_ne _ _ _ h

/-- An arrival with no cut pending and a record at the front that is not DUE leaves all but the starvation
state. -/
theorem State.cutPoint_idle (hc : s.cutter.state = .idle) (hd : s.frontDue s.table.records = false) :
    s.cutPoint = s := by
  simp [State.cutPoint, State.assertRequest, hc, hd]

/-- An arrival with no cut pending and a DUE record at the front: its cut becomes pending (R135, R136). -/
theorem State.cutPoint_due (hc : s.cutter.state = .idle) (hd : s.frontDue s.table.records = true) :
    s.cutPoint = s.makePending .requesting := by
  simp [State.cutPoint, State.assertRequest, hc, hd]

/-- The state in which step 2 of an arrival is taken when a cut is pending (R135). -/
theorem State.assertRequest_state (hc : s.cutter.state ≠ .idle) :
    s.assertRequest = { s with cutter := { s.cutter with state := .requesting } } := by
  unfold State.assertRequest
  split
  · rfl
  · have : s.cutter.state = .requesting := by
      revert hc
      cases h : s.cutter.state <;> simp_all
    rw [← this]

end Sys2Proof.Machine
end

