-- ==== Sys2Proof/Laws/Operands.lean ====
section
/-! SUPPORT. What the fields of a payload read, and what numbers written as bytes read back as. -/

namespace Sys2Proof.Machine

@[simp] theorem bytesOf_length (k n : Nat) : (bytesOf k n).length = k := by
  induction k with
  | zero => rfl
  | succ k ih => simp [bytesOf, ih]

@[simp] theorem signed2_length (i : Int) : (signed2 i).length = 2 := bytesOf_length _ _

@[simp] theorem signed4_length (i : Int) : (signed4 i).length = 4 := bytesOf_length _ _

theorem foldl_number (bytes : List Byte) (n : Nat) :
    bytes.foldl (fun n b => n * 256 + b.toNat) n = n * 256 ^ bytes.length + numberOf bytes := by
  induction bytes generalizing n with
  | nil => simp [numberOf]
  | cons b rest ih =>
    simp only [numberOf, List.foldl_cons, List.length_cons]
    rw [ih, ih (0 * 256 + b.toNat), Nat.pow_succ]
    ring

theorem numberOf_cons (b : Byte) (rest : List Byte) :
    numberOf (b :: rest) = b.toNat * 256 ^ rest.length + numberOf rest := by
  rw [numberOf, List.foldl_cons, foldl_number]
  simp

/-- A number of `k` bytes read back ("Byte order"). -/
theorem numberOf_bytesOf (k n : Nat) : numberOf (bytesOf k n) = n % 256 ^ k := by
  induction k with
  | zero => simp [bytesOf, numberOf, Nat.mod_one]
  | succ k ih =>
    have e : (byte (n / 256 ^ k)).toNat = n / 256 ^ k % 256 := by simp [byte]
    rw [bytesOf, numberOf_cons, bytesOf_length, ih, e, Nat.pow_succ, Nat.mod_mul]
    ring

theorem numberOf_lt (bytes : List Byte) : numberOf bytes < 256 ^ bytes.length := by
  induction bytes with
  | nil => simp [numberOf]
  | cons b rest ih =>
    rw [numberOf_cons, List.length_cons, Nat.pow_succ]
    have h := b.isLt
    have h1 : (b.toNat + 1) * 256 ^ rest.length ≤ 256 * 256 ^ rest.length := Nat.mul_le_mul_right _ (by omega)
    nlinarith [h1]

/-- A field that stands after the bytes before it. -/
theorem field_middle {pre l post : List Byte} {at_ len : Nat} (h1 : pre.length = at_) (h2 : l.length = len) :
    field (pre ++ (l ++ post)) at_ len = numberOf l := by
  subst h1 h2
  simp [field]

theorem field_skip {pre post : List Byte} {at_ : Nat} (h : pre.length ≤ at_) (len : Nat) :
    field (pre ++ post) at_ len = field post (at_ - pre.length) len := by
  simp [field, List.drop_append, List.drop_of_length_le h]

theorem field_front {l post : List Byte} {len : Nat} (h : l.length = len) : field (l ++ post) 0 len = numberOf l :=
  field_middle (pre := []) rfl h

theorem fieldByte_cons (b : Byte) (rest : List Byte) : fieldByte (b :: rest) 0 = b.toNat := by
  simp [fieldByte, field, numberOf]

/-- A field of `k` bytes at the front. -/
theorem field_bytesOf (k n : Nat) (post : List Byte) (h : n < 256 ^ k) : field (bytesOf k n ++ post) 0 k = n := by
  rw [field_front (bytesOf_length k n), numberOf_bytesOf, Nat.mod_eq_of_lt h]

theorem field_bytesOf' (k n : Nat) (h : n < 256 ^ k) : field (bytesOf k n) 0 k = n := by
  simpa using field_bytesOf k n [] h

@[simp] theorem byte_toNat_of_lt {n : Nat} (h : n < 256) : (byte n).toNat = n := by
  simp [byte, Nat.mod_eq_of_lt h]

theorem patternOf_code (p : PatternId) : patternOf? (p.number) = some p := by
  have h := p.isLt
  simp [patternOf?, PatternId.number]

/-- The code of an optional pattern names it. -/
theorem patternOf_patternCode (p : Option PatternId) : patternOf? (patternCode p).toNat = p := by
  cases p with
  | none => rfl
  | some p =>
    have h := p.isLt
    rw [show (patternCode (some p)).toNat = p.number by
      simp only [patternCode]
      exact byte_toNat_of_lt (by simp [PatternId.number]; omega)]
    exact patternOf_code p

/-- The code of an optional width set names it. -/
theorem setOf_widthCode (n : Option SetNo) : setOf? (widthCode n).toNat = n := by
  cases n with
  | none => rfl
  | some n =>
    have h := n.isLt
    rw [show (widthCode (some n)).toNat = n.val by
      simp only [widthCode]
      exact byte_toNat_of_lt (by omega)]
    simp [setOf?, h]

end Sys2Proof.Machine
end

