-- ==== Sys2Proof/Laws/PerInstr.lean ====
section
/-! SUPPORT. One law per command: the frame of a well-formed request comes back as that request. -/

namespace Sys2Proof.Laws.FrameRoundTrip

/-- The kind, tag and payload of the frame that carries a well-formed request stand for that request. A command that
is no request has no frame. -/
def Statement (i : Instr) : Prop :=
  i.wf = true → ∀ kind tag payload, frameOf i = some (kind, tag, payload) → commandOf kind tag payload = i

theorem of_frame {i : Instr} {kind tag : Byte} {payload : List Byte} (h : frameOf i = some (kind, tag, payload))
    (hi : i.wf = true → commandOf kind tag payload = i) : Statement i := by
  intro hw k t p hf
  rw [h, Option.some.injEq, Prod.mk.injEq, Prod.mk.injEq] at hf
  obtain ⟨rfl, rfl, rfl⟩ := hf
  exact hi hw

theorem of_none {i : Instr} (h : frameOf i = none) : Statement i := by
  intro _ k t p hf
  rw [h] at hf
  cases hf

theorem valueOf_valueBytes (v : BitVec 32) : valueOf (v.extractLsb' 24 8) (v.extractLsb' 16 8)
    (v.extractLsb' 8 8) (v.extractLsb' 0 8) = v := by
  unfold valueOf
  rw [BitVec.extractLsb'_append_extractLsb'_eq_extractLsb' (by omega),
    BitVec.extractLsb'_append_extractLsb'_eq_extractLsb' (by omega),
    BitVec.extractLsb'_append_extractLsb'_eq_extractLsb' (by omega)]
  simp

theorem powerOn : Statement (.powerOn) := of_none rfl

theorem resetNLow : Statement (.resetNLow) := of_none rfl

theorem pinReset : Statement (.pinReset) := of_none rfl

theorem countArrival (webA webB : Bool) : Statement (.countArrival webA webB) := of_none rfl

theorem cutWindowExpiry (webA webB : Bool) : Statement (.cutWindowExpiry webA webB) := of_none rfl

theorem cutDone : Statement (.cutDone) := of_none rfl

theorem freeze (asserted : Bool) : Statement (.freeze asserted) := of_none rfl

theorem driveFault (bar : Bar) (asserted : Bool) : Statement (.driveFault bar asserted) := of_none rfl

theorem strokeEvent (bar : Bar) : Statement (.strokeEvent bar) := of_none rfl

theorem selectEcho (bar : Bar) (echo : NeedleSet) : Statement (.selectEcho bar echo) := of_none rfl

theorem barStatusMessage (m : StatusMessage) : Statement (.barStatusMessage m) := of_none rfl

theorem defectNotice (n : DefectNotice) : Statement (.defectNotice n) := of_none rfl

theorem consumptionNotice (n : ConsumptionNotice) : Statement (.consumptionNotice n) := of_none rfl

theorem scanRequest (r : ScanRequest) : Statement (.scanRequest r) := of_none rfl

theorem retryCountdownExpiry (needle : NeedleNo) (r : ScanRequest) : Statement (.retryCountdownExpiry needle r) := of_none rfl

theorem scanDataArrival (bar : Bar) (channels : NeedleSet) : Statement (.scanDataArrival bar channels) := of_none rfl

theorem linkTransactionStart : Statement (.linkTransactionStart) := of_none rfl

theorem frameError (bits : List Bool) : Statement (.frameError bits) := of_none rfl

theorem unknown (kind tag : Byte) (payload : List Byte) : Statement (.unknown kind tag payload) := by
  refine of_frame rfl fun hw => ?_
  simp only [Instr.wf, catalogue, Bool.and_eq_true, Bool.not_eq_true', List.contains_eq_mem, decide_eq_false_iff_not,
    List.mem_cons, not_or] at hw
  unfold commandOf
  split <;> simp_all

theorem nop (tag : Byte) (payload : List Byte) : Statement (.nop tag payload) := of_frame rfl fun _ => rfl

theorem ptopen (tag : Byte) (payload : List Byte) : Statement (.ptopen tag payload) := of_frame rfl fun _ => rfl

theorem ptwrite (tag : Byte) (payload : List Byte) : Statement (.ptwrite tag payload) := of_frame rfl fun _ => rfl

theorem ptclose (tag : Byte) (payload : List Byte) : Statement (.ptclose tag payload) := of_frame rfl fun _ => rfl

theorem ptreopen (tag : Byte) (payload : List Byte) : Statement (.ptreopen tag payload) := of_frame rfl fun _ => rfl

theorem ptdelete (tag : Byte) (payload : List Byte) : Statement (.ptdelete tag payload) := of_frame rfl fun _ => rfl

theorem ptinfo (tag : Byte) (payload : List Byte) : Statement (.ptinfo tag payload) := by
  refine of_frame rfl fun hw => ?_
  have h : (payload != [0]) = true := (Bool.and_eq_true _ _ ▸ hw).2
  exact if_neg (by simpa using h)

theorem ptinfoPageMap (tag : Byte) : Statement (.ptinfoPageMap tag) := of_frame rfl fun _ => rfl

theorem ptread (tag : Byte) (payload : List Byte) : Statement (.ptread tag payload) := of_frame rfl fun _ => rfl

theorem nswrite (tag : Byte) (payload : List Byte) : Statement (.nswrite tag payload) := of_frame rfl fun _ => rfl

theorem nsinfo (tag : Byte) (payload : List Byte) : Statement (.nsinfo tag payload) := of_frame rfl fun _ => rfl

theorem pnadmit (tag : Byte) (payload : List Byte) : Statement (.pnadmit tag payload) := of_frame rfl fun _ => rfl

theorem pnabort (tag : Byte) (payload : List Byte) : Statement (.pnabort tag payload) := of_frame rfl fun _ => rfl

theorem pninfo (tag : Byte) (payload : List Byte) : Statement (.pninfo tag payload) := by
  refine of_frame rfl fun hw => ?_
  have h : (payload != [0, 0]) = true := (Bool.and_eq_true _ _ ▸ hw).2
  exact if_neg (by simpa using h)

theorem pninfoTable (tag : Byte) : Statement (.pninfoTable tag) := of_frame rfl fun _ => rfl

theorem pnlast (tag : Byte) (payload : List Byte) : Statement (.pnlast tag payload) := of_frame rfl fun _ => rfl

theorem brun (tag : Byte) (payload : List Byte) : Statement (.brun tag payload) := of_frame rfl fun _ => rfl

theorem bstop (tag : Byte) (payload : List Byte) : Statement (.bstop tag payload) := of_frame rfl fun _ => rfl

theorem boverride (tag : Byte) (payload : List Byte) : Statement (.boverride tag payload) := of_frame rfl fun _ => rfl

theorem brehearse (tag : Byte) (payload : List Byte) : Statement (.brehearse tag payload) := of_frame rfl fun _ => rfl

theorem binfo (tag : Byte) (payload : List Byte) : Statement (.binfo tag payload) := of_frame rfl fun _ => rfl

theorem ndrearm (tag : Byte) (payload : List Byte) : Statement (.ndrearm tag payload) := of_frame rfl fun _ => rfl

theorem ndrestore (tag : Byte) (payload : List Byte) : Statement (.ndrestore tag payload) := of_frame rfl fun _ => rfl

theorem ndretire (tag : Byte) (payload : List Byte) : Statement (.ndretire tag payload) := of_frame rfl fun _ => rfl

theorem ndload (tag : Byte) (payload : List Byte) : Statement (.ndload tag payload) := of_frame rfl fun _ => rfl

theorem ndinfo (tag : Byte) (payload : List Byte) : Statement (.ndinfo tag payload) := by
  refine of_frame rfl fun hw => ?_
  have h : (!ndinfoWhole payload) = true := (Bool.and_eq_true _ _ ▸ hw).2
  rw [Bool.not_eq_true'] at h
  show ndinfoCommand tag payload = _
  unfold ndinfoCommand
  split
  · simpa [ndinfoWhole] using h
  · rfl

theorem ndinfoBar (tag bar : Byte) : Statement (.ndinfoBar tag bar) := of_frame rfl fun _ => rfl

theorem cfwrite (tag : Byte) (payload : List Byte) : Statement (.cfwrite tag payload) := by
  refine of_frame rfl fun hw => ?_
  have h : (!cfwriteOwnRow payload) = true := (Bool.and_eq_true _ _ ▸ hw).2
  rw [Bool.not_eq_true'] at h
  show cfwriteCommand tag payload = _
  unfold cfwriteCommand
  split
  · simp [cfwriteOwnRow] at h
    simp [h]
  · rfl

theorem cfwriteStarveDist (tag : Byte) (value : BitVec 32) : Statement (.cfwriteStarveDist tag value) := by
  refine of_frame rfl fun _ => ?_
  show Instr.cfwriteStarveDist tag (valueOf _ _ _ _) = _
  rw [valueOf_valueBytes]

theorem cfwriteRoomMark (tag : Byte) (value : BitVec 32) : Statement (.cfwriteRoomMark tag value) := by
  refine of_frame rfl fun _ => ?_
  show Instr.cfwriteRoomMark tag (valueOf _ _ _ _) = _
  rw [valueOf_valueBytes]

theorem cfwriteMissLimit (tag : Byte) (value : BitVec 32) : Statement (.cfwriteMissLimit tag value) := by
  refine of_frame rfl fun _ => ?_
  show Instr.cfwriteMissLimit tag (valueOf _ _ _ _) = _
  rw [valueOf_valueBytes]

theorem cfwriteBreakLimit (tag : Byte) (value : BitVec 32) : Statement (.cfwriteBreakLimit tag value) := by
  refine of_frame rfl fun _ => ?_
  show Instr.cfwriteBreakLimit tag (valueOf _ _ _ _) = _
  rw [valueOf_valueBytes]

theorem cfread (tag : Byte) (payload : List Byte) : Statement (.cfread tag payload) := by
  refine of_frame rfl fun hw => ?_
  have h : (payload != [0]) = true := (Bool.and_eq_true _ _ ▸ hw).2
  exact if_neg (by simpa using h)

theorem cfreadAll (tag : Byte) : Statement (.cfreadAll tag) := of_frame rfl fun _ => rfl

theorem evread (tag : Byte) (payload : List Byte) : Statement (.evread tag payload) := of_frame rfl fun _ => rfl

theorem evack (tag : Byte) (payload : List Byte) : Statement (.evack tag payload) := of_frame rfl fun _ => rfl

theorem maskset (tag : Byte) (payload : List Byte) : Statement (.maskset tag payload) := of_frame rfl fun _ => rfl

theorem maskclear (tag : Byte) (payload : List Byte) : Statement (.maskclear tag payload) := of_frame rfl fun _ => rfl

theorem posread (tag : Byte) (payload : List Byte) : Statement (.posread tag payload) := of_frame rfl fun _ => rfl

theorem lineclear (tag : Byte) (payload : List Byte) : Statement (.lineclear tag payload) := of_frame rfl fun _ => rfl

theorem strokeFall : Statement (.strokeFall) := of_none rfl

theorem cutDoneFall : Statement (.cutDoneFall) := of_none rfl

end Sys2Proof.Laws.FrameRoundTrip
end

