-- ==== Sys2Proof/Laws/Walk.lean ====
section
/-! SUPPORT. The cursor walk: what one step does, in the terms of `Store.StepsTo`, and how the walk goes on. -/

namespace Sys2Proof.Machine

theorem nextIndex_eq (i : EntryNo) : nextIndex i = i + 1 := by revert i; decide

/-- The home page of a pattern that has one. -/
theorem homeOf_eq {st : Store} {p : PatternId} {home : PageNo} (h : st.patterns[p].home = some home) :
    st.homeOf p = home := by
  unfold Store.homeOf
  rw [h]
  rfl

/-- A covering entry under the cursor is a covered place, and the other way round. -/
theorem covers_iff (st : Store) (q : Place) (c : Cursor) (y : Int) (h : q.cursor = some c) :
    covers (st.entry (c.page, c.index)) q y = true ↔ st.Covered y q := by
  unfold covers Store.Covered
  constructor
  · intro hc
    refine ⟨c, h, ?_⟩
    split at hc
    · exact .inl ⟨_, _, _, ‹_›, of_decide_eq_true hc⟩
    · exact .inr ⟨_, _, _, ‹_›, of_decide_eq_true hc⟩
    · cases hc
  · rintro ⟨c', hc', ⟨set, dy, dx, he, hy⟩ | ⟨set, n, a, he, hn⟩⟩
    · rw [h, Option.some.injEq] at hc'
      subst hc'
      simp [he, hy]
    · rw [h, Option.some.injEq] at hc'
      subst hc'
      simp [he, hn]

/-- A step of the relation is the step the walk takes (R72 to R76). -/
theorem walkStep_of_stepsTo {st : Store} {own : PatternId} {y : Int} {q q' : Place} (h : st.StepsTo own y q q')
    (c : Cursor) (hc : q.cursor = some c) : (walkStep st (some own) y c q).1 = q' := by
  obtain ⟨c', hc', h⟩ := h
  rw [hc, Option.some.injEq] at hc'
  subst hc'
  unfold walkStep
  cases he : st.entry (c.page, c.index) with
  | empty => exact (by simp [he] at h)
  | line set dy dx => simpa [he, saturate, Cursor.next, nextIndex_eq, eq_comm] using h
  | lock set n a => simpa [he, Cursor.next, nextIndex_eq, eq_comm] using h
  | call m n =>
    simp only [he] at h
    unfold stepCall
    by_cases depth : q.stack.length < 4
    · rw [if_pos depth] at h
      obtain ⟨home, hh, rfl⟩ := h
      simp [Config.maxStack, depth, nextIndex_eq, Store.homeCursor, homeOf_eq hh]
    · rw [if_neg depth] at h
      simp [Config.maxStack, depth, Cursor.next, nextIndex_eq, h]
  | fin =>
    simp only [he] at h
    unfold stepEnd
    cases hs : q.stack with
    | nil => simpa [hs, eq_comm] using h
    | cons f below =>
      simp only [hs] at h
      by_cases hr : 1 < f.remaining
      · rw [if_pos hr] at h
        obtain ⟨home, hh, rfl⟩ := h
        simp [hr, Store.homeCursor, homeOf_eq hh]
      · rw [if_neg hr] at h
        subst h
        cases below <;> simp [hr, patternBelow]
  | link page => simpa [he, eq_comm] using h

/-- The walk passes over a CALL exactly where the stack is full (R74). -/
theorem walkStep_passed (st : Store) (own : Option PatternId) (y : Int) (q : Place) (c : Cursor)
    (h : q.cursor = some c) : (walkStep st own y c q).2 = true ↔ st.PassesOver q := by
  unfold walkStep Store.PassesOver
  constructor
  · intro hp
    split at hp <;> try cases hp
    rename_i m n he
    unfold stepCall at hp
    split at hp
    · cases hp
    · exact ⟨c, m, n, h, he, Nat.not_lt.mp ‹_›⟩
  · rintro ⟨c', m, n, hc', he, depth⟩
    rw [h, Option.some.injEq] at hc'
    subst hc'
    simp [he, stepCall, Config.maxStack, Nat.not_lt.mpr depth]

/-- Where the pattern is finished the walk stops (R71). -/
theorem walkCursor_finished (st : Store) (own : Option PatternId) (y : Int) (budget : Nat) (q : Place) (deep : Bool)
    (h : q.finished = true) : walkCursor st own y budget q deep = (q, deep, false) := by
  unfold walkCursor
  split
  · rfl
  · simp [h]

/-- On a covering segment the walk stops and the stroke is placed (R71). -/
theorem walkCursor_covered (st : Store) (own : Option PatternId) (y : Int) (budget : Nat) (q : Place) (deep : Bool)
    (finished : q.finished = false) (h : st.Covered y q) : walkCursor st own y budget q deep = (q, deep, true) := by
  obtain ⟨c, hc, -⟩ := id h
  unfold walkCursor
  simp [hc, finished, (covers_iff st q c y hc).mpr h]

/-- Else it takes a step while any of its budget is left (R71). -/
theorem walkCursor_step (st : Store) (own : Option PatternId) (y : Int) (budget : Nat) (q : Place) (deep : Bool)
    (c : Cursor) (hc : q.cursor = some c) (finished : q.finished = false) (h : ¬ st.Covered y q) :
    walkCursor st own y (budget + 1) q deep
      = walkCursor st own y budget (walkStep st own y c q).1 (deep || (walkStep st own y c q).2) := by
  have uncovered := mt (covers_iff st q c y hc).mp h
  conv_lhs => unfold walkCursor
  simp [hc, finished, uncovered]

/-- With no budget left it stops where it is (R71). -/
theorem walkCursor_spent (st : Store) (own : Option PatternId) (y : Int) (q : Place) (deep : Bool)
    (h : q.finished = true ∨ ¬ st.Covered y q) : walkCursor st own y 0 q deep = (q, deep, false) := by
  unfold walkCursor
  split
  · rfl
  · rename_i c hc
    obtain h | h := h
    · simp [h]
    · simp [mt (covers_iff st q c y hc).mp h]

end Sys2Proof.Machine
end

