-- ==== Sys2Proof/Tests/Slice0.lean ====
section
/-! SUPPORT. Tests: the commands the well-formedness check refuses, the reference frames of the manual, one small
step for every command with results taken from the manual, and for each obligation with hypotheses a concrete state
that meets them. -/

namespace Sys2Proof.Tests

set_option maxRecDepth 20000
set_option Elab.async false

open Sys2Proof.Machine

/-! ### Small states -/

/-- The state a command leaves. -/
def after (c : Instr) (s : State) : State :=
  match exec c s with
  | .next t => t
  | _ => s

/-- The bytes of small numbers. -/
def raw (l : List Nat) : List Byte := l.map (BitVec.ofNat 8)

/-- The status and the payload of the response in the slot after a command. -/
def reply (c : Instr) (s : State) : Status × List Nat :=
  ((after c s).link.slot.status, (after c s).link.slot.payload.map BitVec.toNat)

/-- Pattern 1 CLOSED on page 0: LINE on set 1 over 1,500 wc to -700, then END; set 1 is 0, 4, 8, 12. -/
def lineStore : Store := { Store.reset with
  entries := Store.reset.entries.set 0 ((Store.blankPage.set 0 (.line 1 1500 (-700))).set 1 .fin)
  owner := Store.reset.owner.set 0 (some 0)
  patterns := Store.reset.patterns.set 0 ⟨.closed, some 0, false, 1⟩
  sets := Store.reset.sets.set 1 ⟨0x1111, 1⟩ }

/-- The same pattern before it was closed. -/
def openStore : Store := { lineStore with
  patterns := Store.reset.patterns.set 0 ⟨.opened, some 0, false, 0⟩
  sets := Store.reset.sets.set 1 ⟨0x1111, 0⟩ }

/-- The panel 0x0107 of the manual's lag sequence, with a pattern for bar B alone (section 4.9). -/
def panel : PanelRecord where
  tag := 0x107
  head := 10000
  length := 20000
  tailMargin := 400
  policy := .stop
  bars := ⟨⟨none, 0, none, .absent, 0⟩, ⟨some 0, -100, none, .sewing, 0⟩, ⟨none, 0, none, .absent, 0⟩⟩
  defects := 0
  notices := 0
  first := none
  aborted := false
  cutPending := false

/-- The panel with bar B done. -/
def settledPanel : PanelRecord := { panel with bars := panel.bars.set .B { panel.bars.b with status := .done } }

/-- A panel behind it of the least length. -/
def later : PanelRecord := { panel with tag := 0x108, head := 30000, length := 1000 }

/-- The panels given are live and W is as given. -/
def fed (w : Word) (records : List PanelRecord) : State :=
  { State.reset with w := w, store := lineStore, table := ⟨records, false⟩ }

/-- The panels given are live and the cut of the first is pending. -/
def cutting (w : Word) (st : CutterState) (records : List PanelRecord) : State :=
  { fed w records with cutter := { Cutter.reset with state := st, pendingHead := some 10000 } }

/-- The panel with its cut pending. -/
def due : PanelRecord := { panel with cutPending := true }

/-- The same with a first defect. -/
def marked : PanelRecord := { due with defects := 4, notices := 1, first := some ⟨.lag, some .B, 0⟩ }

/-- A needle on a spool. -/
def spooled : NeedleRecord := { NeedleRecord.reset with state := .ready, thread := 1000 }

/-- Bar B of the lag sequence before its first stroke: B8 is BROKEN, the other needles READY (section 4.9). -/
def sewing : State := { fed 13600 [panel] with
  bars := ⟨.reset, {
    reference := ⟨some 13550, .normal, 50⟩
    control := { Control.reset with run := .running }
    place := { Place.reset with
      current := some ⟨10000, .inside⟩
      cursor := some ⟨0, 0, 0⟩
      lastY := 1750
      ys := 1000
      ps := 300
      p := 300
      x := -50 } }, .reset⟩
  needles := ⟨Vector.replicate 40 spooled,
    (Vector.replicate 40 spooled).set 8 { spooled with state := .broken }, Vector.replicate 40 spooled⟩ }

/-- A step on the state with one needle of bar A replaced. -/
def withNeedle (r : NeedleRecord) : State :=
  { sewing with needles := sewing.needles.set .A ((sewing.needles.get .A).set 7 r) }

/-- A scan of bar A in flight that expects needle 7. -/
def scanning (r : NeedleRecord) : State := { withNeedle r with scans := ⟨.scanning ⟨0x80, some 10000⟩, .atRest, .atRest⟩ }

/-! ### Well-formedness: one ill-formed command for each check -/

theorem test_wf_payload_too_long : (Instr.nop 1 (List.replicate 241 0)).wf = false := by decide
theorem test_wf_payload_longest : (Instr.nop 1 (List.replicate 240 0)).wf = true := by decide
theorem test_wf_unknown_of_catalogue : (Instr.unknown 0x57 1 []).wf = false := by decide
theorem test_wf_unknown_outside : (Instr.unknown 0x17 1 []).wf = true := by decide
theorem test_wf_own_rows : (Instr.ptinfo 1 [0]).wf = false ∧ (Instr.pninfo 1 [0, 0]).wf = false
    ∧ (Instr.ndinfo 1 [0, 0xFF]).wf = false ∧ (Instr.cfwrite 1 [29, 0, 0, 0, 1]).wf = false
    ∧ (Instr.cfread 1 [0]).wf = false := by decide
theorem test_wf_notice_without_kind : (Instr.defectNotice ⟨.A, 5, 0, 0⟩).wf = false := by decide
theorem test_wf_notice_position : (Instr.defectNotice ⟨.A, 5, 1, 2147483648⟩).wf = false := by decide
theorem test_wf_consumption_advance : (Instr.consumptionNotice ⟨.A, 0, 0, none⟩).wf = false := by decide
theorem test_wf_consumption_panel : (Instr.consumptionNotice ⟨.A, 20, 1, none⟩).wf = false := by decide
theorem test_wf_scan_panel : (Instr.scanRequest ⟨.A, true, 1, none⟩).wf = false := by decide
theorem test_wf_countdown_stopped : (Instr.retryCountdownExpiry 0 ⟨.A, false, 0, none⟩).wf = false := by decide
theorem test_wf_rise_alone : (Instr.frameError []).wf = true := by decide

/-! ### Frames: the bytes written in the manual -/

/-- The reference frame of section 9.3. -/
theorem test_frame_posread : encode (.posread 1 []) = some [0x56, 0x01, 0x00, 0x4C] := by decide
theorem test_frame_posread_read : decodeFrame true (bitsOf [0x56, 0x01, 0x00, 0x4C, 0xAA] ++ [true, false, true])
    = some (.posread 1 []) := by decide
/-- R157: bytes are received most significant bit first, and an incomplete last byte is discarded. -/
theorem test_wholeBytes : wholeBytes [false, true, false, true, false, true, true, false, true] = [0x56] := by decide
/-- The idle response and the frame error response (sections 9.3, 9.5). -/
theorem test_response_idle : Response.idle.bytes = [0, 0, 0, 0, 0] := by decide
/-- Section 9.2: kind, tag, status, length, payload and check byte on LK_DO; the frame error response of R161. -/
theorem test_response_on_line : let s := after .linkTransactionStart (after (.frameError (bitsOf [1])) State.reset);
    (List.range 48).map s.lineOut = (bitsOf [0x00, 0x00, 0x13, 0x00, 0x68, 0x00]).map some := by decide +kernel
theorem test_response_frame_error : (after (.frameError (bitsOf [1] ++ [true])) State.reset).link.slot.bytes
    = [0x00, 0x00, 0x13, 0x00, 0x68] := by decide +kernel
theorem test_frame_own_row : commandOf 0x50 7 [7, 0, 0, 0, 5] = .cfwriteMissLimit 7 5
    ∧ commandOf 0x44 7 [2, 0xFF] = .ndinfoBar 7 2 ∧ commandOf 0x17 7 [] = .unknown 0x17 7 [] := by decide
theorem test_no_table_bits : decodeTableWord 32 0x4C000156 = none := by decide

/-! ### One step of each command -/

theorem test_step_takes_front : step { State.reset with pending := [.strokeFall, .cutDoneFall] }
    = exec .strokeFall { State.reset with pending := [.cutDoneFall] } := rfl
theorem test_step_idle : step State.reset = .next State.reset := rfl

/-- R155: the cause of RESTARTED is POWER at power-on and PIN at the release of RESET_N. -/
theorem test_powerOn : (after .powerOn sewing).event .restarted = ⟨1, some (.restart .power)⟩
    ∧ (after .powerOn sewing).w = 0 := by decide +kernel
theorem test_pinReset : (after .pinReset sewing).event .restarted = ⟨1, some (.restart .pin)⟩
    ∧ (after .pinReset sewing).table.records = [] := by decide +kernel
theorem test_resetNLow : (cutting 60000 .requesting [due]).cutRequest = true
    ∧ (after .resetNLow (cutting 60000 .requesting [due])).cutRequest = false
    ∧ (after .resetNLow sewing).attentionLine 3 = false := by decide +kernel
/-- R157: a transaction whose frame was executed is ignored after a reset until LK_SEL rises; the next is taken. -/
theorem test_reset_ignores_transaction : let s := after .pinReset (after .resetNLow (after (.nop 9 []) State.reset));
    s.link.phase = .ignored ∧ (after .linkTransactionStart (after (.frameError (bitsOf [1])) s)).link.phase = .opened := by
  decide +kernel
/-- R157: after a frame has executed, a second frame clocked in is fill, and LK_SEL rises: the slot keeps the response. -/
theorem test_frameError_fill : let t := after (.frameError (bitsOf [0x31, 4, 1, 2, 0x33])) (after (.nop 9 []) State.reset);
    t.link.slot = ⟨0, 9, .ok, []⟩ ∧ t.link.phase = .idle ∧ t.lineOut 0 = none
      ∧ (after (.nop 9 []) State.reset).lineOut 0 = some false := by decide +kernel
/-- R157, R172: a transaction that ended before the reset leaves LK_SEL high, and the first one after it is taken. -/
theorem test_reset_after_end : (after .pinReset (after .resetNLow (after (.frameError []) (after (.nop 9 [])
    State.reset)))).link.phase = .idle := by decide +kernel
/-- R1: a backward count at 0 gives 4,294,967,295. -/
theorem test_countArrival_wraps : (after (.countArrival false true) State.reset).w = 0xFFFFFFFF := by decide +kernel
/-- R3: an illegal transition. -/
theorem test_countArrival_illegal : (after (.countArrival true true) sewing).w = 13600
    ∧ (after (.countArrival true true) sewing).bars.c.control.latched.encoder = true := by decide +kernel
/-- R139: the window expires when the end has run 500 wc past the cutter. -/
theorem test_cutWindowExpiry : (after (.cutWindowExpiry true false) (cutting 60499 .requesting [due])).cutter.lastRetired.map
    (fun m => (m.tag, m.outcome)) = some (0x107, .window) := by decide +kernel
theorem test_cutWindowExpiry_early :
    (after (.cutWindowExpiry true false) (cutting 60498 .requesting [due])).w = 60498 := by decide +kernel
theorem test_cutDone : (after .cutDone (cutting 60010 .requesting [due])).cutter
    = ⟨.idle, none, some (due.summary .cut 60010), 1⟩ := by decide +kernel
theorem test_cutDone_stray : (after .cutDone sewing).event .cutStray = ⟨1, none⟩ := by decide +kernel
theorem test_cutDoneFall : (after .cutDoneFall sewing).inputs.cutDone = false := by decide +kernel
theorem test_freeze : (after (.freeze true) sewing).inputs.freeze = true
    ∧ (after (.freeze true) sewing).levelFlags = 0x28 := by decide +kernel
theorem test_driveFault : (after (.driveFault .C true) sewing).inputs.driveFault = ⟨false, false, true⟩ := by
  decide +kernel
/-- The first row of the table of section 4.9: q = -373, P = -73, X = -90, with B8 held out and LAG noted. -/
theorem test_strokeEvent_lag : let q := (after (.strokeEvent .B) sewing).bars.b.place
    (q.p, q.x, q.engaged, q.outcome) = (-73, -90, 0x1011, .placed) := by decide +kernel
theorem test_strokeEvent_sends : (after (.strokeEvent .B) sewing).messages
    = [.notice ⟨.B, 10000, 4, 1800⟩, .consumption ⟨.B, 50, 0x1011, some 10000⟩, .scan ⟨.B, true, 0, none⟩] := by
  decide +kernel
/-- R103: X = -90 goes out as 1111 1111 1010 0110, most significant bit first. -/
theorem test_driveBit : (List.range 17).map (fun n => (after (.strokeEvent .B) sewing).driveBit .B n)
    = [some true, some true, some true, some true, some true, some true, some true, some true, some true, some false,
      some true, some false, some false, some true, some true, some false, none] := by decide +kernel
theorem test_strokeFall : (after .strokeFall (after (.strokeEvent .B) sewing)).inputs.stroke = false := by
  decide +kernel
/-- R106: an echo that differs from the frame. -/
theorem test_selectEcho :
    let t := after (.selectEcho .A 1) (sewing.setControl .A { Control.reset with transfer := some ⟨3, some 10000⟩ });
    t.bars.a.control.latched.select = true ∧ t.event .selectFault = ⟨1, some (.bar .A)⟩ := by decide +kernel
theorem test_barStatusMessage : (after (.barStatusMessage ⟨.B, 10000, .done⟩) sewing).table.records.map
    (fun r => r.bars.b.status) = [.done] := by decide +kernel
/-- R52, R53: a BREAK notice under STOP. -/
theorem test_defectNotice : let t := after (.defectNotice ⟨.B, 10000, 0x80, 1800⟩) sewing
    t.bars.b.control.latched.defect = true ∧ t.event .panelDefect = ⟨1, some (.tag 0x107)⟩ := by decide +kernel
/-- R133: after LINECLEAR the chain is clocked to its end, and its data is ignored. -/
theorem test_scanDataArrival_abandoned : let s := after (.lineclear 1 []) (scanning { spooled with misses := 2 });
    s.scanOut .A = true ∧ s.scanOut .B = false ∧ (after (.scanDataArrival .A 0) s).scanOut .A = false
      ∧ ((after (.scanDataArrival .A 0) s).needle .A 7).misses = 2 := by decide +kernel
/-- R122: 50 wc at 224 sixty-fourths draw 175. -/
theorem test_consumptionNotice : ((after (.consumptionNotice ⟨.B, 50, 1, some 10000⟩) sewing).needle .B 0).thread
    = 825 := by decide +kernel
theorem test_scanRequest : (after (.scanRequest ⟨.C, true, 3, some 10000⟩) sewing).scans.c
    = .scanning ⟨3, some 10000⟩ := by
  decide +kernel
/-- Section 6.8: the 50th running stroke. -/
theorem test_retryCountdownExpiry :
    let broken : NeedleRecord := { spooled with state := .broken, breaks := 1, countdown := some 1, retries := 2 }
    (after (.retryCountdownExpiry 7 ⟨.A, true, 0, none⟩) (withNeedle broken)).needle .A 7
      = { spooled with state := .probation, breaks := 1, retries := 1 } := by decide +kernel
/-- Section 6.8: the third silent scan breaks the needle. -/
theorem test_scanDataArrival : (after (.scanDataArrival .A 0) (scanning { spooled with misses := 2 })).needle .A 7
    = { spooled with state := .broken, breaks := 1, countdown := some 50, retries := 2 } := by decide +kernel
theorem test_linkTransactionStart : (after .linkTransactionStart (after (.nop 9 []) State.reset)).link
    = ⟨.idle, ⟨0, 9, .ok, []⟩, .opened⟩ := by decide +kernel
/-- R157: the response of NOP with tag 9 goes out most significant bit first, 0x00 past its five bytes. -/
theorem test_lineOut : let s := after .linkTransactionStart (after (.nop 9 []) State.reset);
    (List.range 16).map s.lineOut = (List.replicate 12 false ++ [true, false, false, true]).map some
      ∧ s.lineOut 40 = some false ∧ State.reset.lineOut 0 = none ∧ (after .resetNLow s).lineOut 0 = none := by
  decide +kernel
/-- R158: a length byte above 240 is OVERLENGTH even when the frame is cut short. -/
theorem test_frameError_overlength : (after (.frameError (bitsOf [0x31, 4, 241])) State.reset).event .linkErr
    = ⟨1, some (.linkError .overlength)⟩ := by decide +kernel
/-- Transaction 4 of section 9.9. -/
theorem test_frameError_check : (after (.frameError (bitsOf [0x31, 4, 1, 2, 0x33])) State.reset).event .linkErr
    = ⟨1, some (.linkError .check)⟩ := by decide +kernel
theorem test_unknown : (after (.unknown 0x17 6 []) State.reset).link.slot = ⟨0x17, 6, .unknown, []⟩ := by
  decide +kernel
theorem test_nop : (after (.nop 5 []) State.reset).link.slot = ⟨0, 5, .ok, []⟩ := by decide +kernel
theorem test_ptopen : (after (.ptopen 1 [32, 15]) State.reset).store.patterns[31] = ⟨.opened, some 15, false, 0⟩ := by
  decide +kernel
/-- R26: index 63 is followed by index 0. -/
theorem test_ptwrite_wraps : let es := (after (.ptwrite 1 (raw [1, 0, 63, 2, 4, 0, 0, 0, 0, 0, 0, 0, 5, 2, 0, 0, 0, 0, 0,
      0])) { State.reset with store := openStore }).store.entries[0]
    (es[63], es[0]) = (.fin, .link 2) := by decide +kernel
theorem test_ptclose : reply (.ptclose 1 [1]) { State.reset with store := openStore } = (.ok, [0, 0, 2]) := by
  decide +kernel
theorem test_ptreopen_used : reply (.ptreopen 1 [1]) { State.reset with store := lineStore } = (.inUse, []) := by
  decide +kernel
theorem test_ptdelete : (after (.ptdelete 1 [1]) { State.reset with store := openStore }).store.owner[0] = none := by
  decide +kernel
theorem test_ptinfo : reply (.ptinfo 1 [1]) { State.reset with store := lineStore } = (.ok, [1, 2, 0, 0, 1, 0, 0, 1]) := by
  decide +kernel
theorem test_ptinfoPageMap : reply (.ptinfoPageMap 1) { State.reset with store := lineStore }
    = (.ok, [1, 0, 0, 0, 0, 0, 0, 0, 0, 0, 0, 0, 0, 0, 0, 0]) := by decide +kernel
/-- R24, R34: a LINE with dy 1,500 and dx -700 as its 8 bytes. -/
theorem test_ptread : reply (.ptread 1 [0, 0, 1]) { State.reset with store := lineStore }
    = (.ok, [0, 0, 1, 1, 1, 1, 0x05, 0xDC, 0xFD, 0x44, 0, 0]) := by decide +kernel
theorem test_nswrite : (after (.nswrite 1 [63, 3, 39, 0, 39]) State.reset).store.sets[63] = ⟨0x8000000001, 0⟩ := by
  decide +kernel
theorem test_nsinfo : reply (.nsinfo 1 [1]) { State.reset with store := lineStore } = (.ok, [1, 0, 1, 4, 0, 4, 8, 12]) := by
  decide +kernel
/-- R43: in AFTER mode the head is the end of the newest panel and the value. -/
theorem test_pnadmit_after : reply (.pnadmit 1 (raw [1, 8, 1, 0, 0, 0, 100, 0, 0, 0x03, 0xE8, 0, 0, 0, 0, 0, 0, 0xFF, 0, 0,
      0, 0xFF, 0, 0, 0, 0xFF])) sewing = (.ok, [0, 0, 0x75, 0x94, 2]) := by decide +kernel
theorem test_pnadmit_duplicate : reply (.pnadmit 1 (raw [1, 7, 1, 0, 0, 0, 100, 0, 0, 0x03, 0xE8, 0, 0, 0, 0, 0, 0, 0xFF,
      0, 0, 0, 0xFF, 0, 0, 0, 0xFF])) sewing = (.dupTag, []) := by decide +kernel
theorem test_pnabort_waiting : reply (.pnabort 1 [1, 7]) (fed 0 [panel]) = (.ok, [0, 0]) := by decide +kernel
theorem test_pnabort_in_work : reply (.pnabort 1 [1, 7]) sewing = (.ok, [1, 1]) := by decide +kernel
theorem test_pninfo_absent : reply (.pninfo 1 [2, 1]) sewing = (.noSuch, []) := by decide +kernel
theorem test_pninfoTable : reply (.pninfoTable 1) sewing = (.ok, [1, 0, 1, 7, 0, 0, 0x27, 0x10, 1, 0, 0]) := by
  decide +kernel
theorem test_pnlast : (reply (.pnlast 1 []) sewing).2.length = 46 := by decide +kernel
theorem test_brun : (after (.brun 1 [0]) sewing).bars.a.control.pendingRun = some .run := by decide +kernel
theorem test_bstop : reply (.bstop 1 [1]) sewing = (.ok, [1, 2, 0]) := by decide +kernel
theorem test_boverride : (after (.boverride 1 [2, 2, 0, 39]) sewing).bars.c.control.pendingOverride
    = some 0x8000000001 := by decide +kernel
theorem test_brehearse : (after (.brehearse 1 [0, 1]) sewing).bars.a.control.pendingRehearsal = some true := by
  decide +kernel
theorem test_binfo : (reply (.binfo 1 [1]) sewing).2.length = 92 := by decide +kernel
/-- Section 6.8: NDREARM restores the retries and keeps the break count. -/
theorem test_ndrearm : (after (.ndrearm 1 [0, 7]) (withNeedle { spooled with state := .broken, breaks := 1 })).needle .A 7
    = { spooled with state := .probation, breaks := 1, retries := 2 } := by decide +kernel
theorem test_ndrestore : ((after (.ndrestore 1 [0, 7]) (withNeedle { spooled with state := .retired, breaks := 4 })).needle
    .A 7).breaks = 0 := by decide +kernel
theorem test_ndretire : ((after (.ndretire 1 [1, 8]) sewing).needle .B 8).state = .retired := by decide +kernel
theorem test_ndload : reply (.ndload 1 [0, 0xFF, 0, 0, 0, 9]) State.reset = (.ok, [40]) := by decide +kernel
theorem test_ndinfo : reply (.ndinfo 1 [1, 8]) sewing = (.ok, [1, 8, 1, 0, 0, 0, 0, 0x03, 0xE8, 0, 0, 0, 0, 0, 0]) := by
  decide +kernel
theorem test_ndinfoBar : (reply (.ndinfoBar 1 1) sewing).2.length = 52 := by decide +kernel
/-- R168: X_MIN may not pass above the commanded position, here -50. -/
theorem test_cfwrite_cross : reply (.cfwrite 1 [10, 0xFF, 0xFF, 0xFF, 0xCF]) sewing = (.range, [])
    ∧ reply (.cfwrite 1 [10, 0xFF, 0xFF, 0xFF, 0xCE]) sewing = (.ok, [10, 255, 255, 255, 206]) := by decide +kernel
theorem test_cfwriteStarveDist : (after (.cfwriteStarveDist 1 16400) sewing).table.starving = true
    ∧ (after (.cfwriteStarveDist 1 16399) sewing).table.starving = false := by decide +kernel
theorem test_cfwriteRoomMark : (after (.cfwriteRoomMark 1 0) sewing).room = false := by decide +kernel
theorem test_cfwriteMissLimit : reply (.cfwriteMissLimit 1 5) sewing = (.busy, [])
    ∧ (after (.cfwriteMissLimit 1 5) State.reset).params.missLimit = 5 := by decide +kernel
theorem test_cfwriteBreakLimit : reply (.cfwriteBreakLimit 1 16) State.reset = (.range, []) := by decide +kernel
theorem test_cfread : reply (.cfread 1 [3]) State.reset = (.ok, [3, 0, 0, 0x75, 0x30]) := by decide +kernel
theorem test_cfreadAll : (reply (.cfreadAll 1) State.reset).2.length = 129 := by decide +kernel
theorem test_evread : (reply (.evread 1 []) State.reset).2.take 9 = [0, 0, 1, 0, 0, 0x20, 1, 0, 0] := by decide +kernel
theorem test_evack : reply (.evack 1 [0, 0, 1]) State.reset
    = (.ok, [0, 0, 1, 1, 0, 0, 0, 0, 0, 0, 0, 0, 0, 0, 0, 0, 0, 0, 0, 0, 0]) := by decide +kernel
/-- R151, R152: after reset ATTN0 shows RESTARTED and ATTN3 shows ROOM. -/
theorem test_maskset : reply (.maskset 1 [1, 0, 0, 1]) State.reset = (.ok, [0, 0x29, 0x05, 0x0B]) := by decide +kernel
theorem test_maskclear : reply (.maskclear 1 [3, 0, 0, 0x20]) State.reset = (.ok, [0, 0, 0, 0x01]) := by decide +kernel
theorem test_posread : (reply (.posread 1 []) sewing).2.take 5 = [0, 0, 0x35, 0x20, 0] := by decide +kernel
theorem test_lineclear : (after (.lineclear 1 []) sewing).store.patterns[0].useCount = 0
    ∧ (after (.lineclear 1 []) sewing).bars.b.place.x = -50 := by decide +kernel

/-! ### The hypotheses of the obligations are met

Each theorem shows a concrete state and operands that meet the hypotheses of the obligation it names, clause by clause,
with the values at the bounds of the clauses. -/

/-- The hypothesis of every statement about a request. -/
theorem test_meets_takesFrames : State.reset.takesFrames ∧ sewing.takesFrames := by
  constructor <;> exact ⟨rfl, by decide⟩

/-- The part with its supply not yet good, and with RESET_N low. -/
def unpowered : State := { State.reset with inputs := { Inputs.quiet with supply := false } }

theorem test_meets_RestartGivesResetValues : (after .linkTransactionStart State.reset).link.phase = .opened
    ∧ (after (.nop 9 []) State.reset).link.phase = .answered ∧ State.reset.inputs.supply = true
    ∧ unpowered.inputs.supply = false := by decide +kernel

theorem test_meets_ResetLowSilencesPart : State.reset.inputs.operates = true
    ∧ (after .linkTransactionStart State.reset).link.phase ≠ .idle
    ∧ (after .resetNLow State.reset).inputs.resetN = false ∧ unpowered.inputs.supply = false
    ∧ Instr.cutDone ≠ .powerOn ∧ Instr.cutDone ≠ .pinReset := by decide +kernel

theorem test_meets_CountArrivals : State.reset.inputs.operates = true := rfl

theorem params_default_wf : Params.default.Wf := by
  constructor <;> first | decide | (intro b; cases b <;> decide)

theorem panel_wf : panel.Wf := by
  constructor <;> first | decide | (intro b; cases b <;> decide)

theorem later_wf : later.Wf := by
  constructor <;> first | decide | (intro b; cases b <;> decide)

/-- The last count before and the first count of each phase of a panel at 10,000 of length 20,000. -/
theorem test_meets_PhaseFollowsWeb : State.reset.params.Wf ∧ panel.Wf ∧ panel.head = BitVec.ofInt 32 10000
    ∧ ∀ w ∈ [9999, 10000, 33599, 33600, 59999, 60000, -1073731824, 1073751824],
      (fed (BitVec.ofInt 32 w) [panel]).w = BitVec.ofInt 32 w ∧ -1073741824 ≤ w - 10000 ∧ w - 10000 ≤ 1073741824 :=
  ⟨params_default_wf, panel_wf, by decide, by decide +kernel⟩

theorem test_meets_CutBecomesPending : let s := fed 59999 [panel, later];
    s.inputs.operates = true ∧ s.countStep true false = .forward ∧ s.countStep false true = .backward
      ∧ s.cutter.state = .idle ∧ s.table.records = [panel, later] ∧ (s.takePair true false).phase panel = .due
      ∧ panel.first = none ∧ panel.pendingMark .B = some .barShort ∧ settledPanel.pendingMark .B = none
      ∧ (after (.countArrival true false) s).event .panelDefect = ⟨1, some (.tag 0x107)⟩ := by decide +kernel

theorem test_meets_CutBecomesPending_mark : panel.SettlesFirst ∧ ¬ settledPanel.SettlesFirst := by
  refine ⟨⟨rfl, .B, by decide⟩, ?_⟩
  rintro ⟨-, b, h⟩
  cases b <;> exact h rfl

theorem test_meets_CutDoneEdges : let s := cutting 60010 .requesting [due];
    s.inputs.operates = true ∧ s.inputs.cutDone = false ∧ s.cutter.state = .requesting ∧ s.table.records = [due]
      ∧ State.reset.cutter.state ≠ .requesting ∧ (cutting 60010 .rearming [due]).cutter.state ≠ .requesting
      ∧ (after .cutDone s).inputs.cutDone = true := by decide +kernel

/-- The end of the panel stands 500 wc past the cutter at W = 60,500, and 499 the count before. -/
theorem test_meets_WindowExpiryRetires :
    let s := cutting 60499 .requesting [due, later];
    let e := cutting 60498 .requesting [due, later];
    let past (u : State) : Int := webDist (u.w - BitVec.ofNat 32 u.params.offK - BitVec.ofNat 32 due.length) due.head;
    s.inputs.operates = true ∧ s.countStep true false = .forward ∧ s.cutter.state ≠ .idle
      ∧ s.table.records = due :: [later] ∧ (∀ q ∈ [later].head?, (s.takePair true false).phase q ≠ .due)
      ∧ due.first = none ∧ marked.first ≠ none ∧ (cutting 60499 .requesting []).table.records = []
      ∧ past (s.takePair true false) = 500 ∧ s.params.cutWindow = 500
      ∧ s.countStep false false = .unchanged ∧ State.reset.cutter.state = .idle
      ∧ past (e.takePair true false) = 499
      ∧ ((cutting 60999 .requesting [due, later]).takePair true false).phase later = .due := by decide +kernel

theorem test_meets_NextPanelForcesCut :
    let s := cutting 60999 .requesting [due, later];
    let e := cutting 60498 .rearming [due, later];
    s.inputs.operates = true ∧ s.countStep true false = .forward ∧ s.cutter.state ≠ .idle
      ∧ s.table.records = due :: [later] ∧ (s.takePair true false).phase later = .due
      ∧ due.first = none ∧ marked.first ≠ none ∧ later.pendingMark .B = some .barShort
      ∧ (after (.countArrival true false) s).event .panelDefect = ⟨2, some (.tag 0x108)⟩
      ∧ e.countStep true false = .forward ∧ e.cutter.state ≠ .idle ∧ e.table.records = due :: [later]
      ∧ (∀ q ∈ [later].head?, (e.takePair true false).phase q ≠ .due)
      ∧ webDist ((e.takePair true false).w - BitVec.ofNat 32 e.params.offK - BitVec.ofNat 32 due.length) due.head
        < e.params.cutWindow := by decide +kernel

/-- The least tag, length and margin at W itself, and the greatest at the end of the newest panel. -/
theorem test_meets_AdmissionAppendsRecord :
    (let s := fed 13600 []; s.table.records.length < 16 ∧ (∀ q ∈ s.table.records, q.tag.toNat ≠ 1)
      ∧ 0 ≤ webDist (BitVec.ofNat 32 13600) s.w ∧ webDist (BitVec.ofNat 32 16790815) s.w < 16777216
      ∧ (∀ b : Bar, (-4000 : Int) ≤ (PerBar.const (-4000 : Int)).get b ∧ (PerBar.const (-4000 : Int)).get b ≤ 4000)
      ∧ ∀ (b : Bar) (p : PatternId), (⟨some 0, none, some 0⟩ : PerBar (Option PatternId)).get b = some p →
        s.store.patterns[p].state = .closed)
    ∧ (let s := fed 13600 [panel]; (∀ q ∈ s.table.records, q.tag.toNat ≠ 65535)
      ∧ s.table.records.getLast? = some panel
      ∧ webDist (panel.head + BitVec.ofNat 32 panel.length + BitVec.ofNat 32 0) s.w = 16400
      ∧ webDist (panel.head + BitVec.ofNat 32 panel.length + BitVec.ofNat 32 0)
          (panel.head + BitVec.ofNat 32 panel.length) = 0) := by
  refine ⟨⟨by decide, by decide, by decide, by decide, ?_, ?_⟩, by decide +kernel⟩
  · intro b; cases b <;> decide
  · intro b p h
    cases b <;> simp only [PerBar.get, Option.some.injEq, reduceCtorEq] at h <;> subst h <;> decide +kernel

/-- A payload of PNADMIT for one bar. -/
def asking (tag mode value length margin policy pattern origin width : Nat) : List Byte :=
  bytesOf 2 tag ++ raw [mode] ++ bytesOf 4 value ++ bytesOf 4 length ++ bytesOf 2 margin ++ raw [policy, pattern]
    ++ bytesOf 2 origin ++ raw [width, 0, 0, 0, 0xFF, 0, 0, 0, 0xFF]

/-- Each refusal in the order of the checks, at the bounds of the ranges. -/
theorem test_meets_AdmissionRefusals : let s := fed 13600 [panel];
    (asking 1 1 0 1000 0 0 1 0 255).length = 26
      ∧ reply (.pnadmit 1 [1]) s = (.length, [])
      ∧ reply (.pnadmit 1 (asking 1 1 0 1000 0 0 1 0 255)) (fed 13600 (List.replicate 16 panel)) = (.full, [])
      ∧ reply (.pnadmit 1 (asking 0x107 1 0 999 0 0 1 0 255)) s = (.dupTag, [])
      ∧ [asking 0 1 0 1000 0 0 1 0 255, asking 1 2 0 1000 0 0 1 0 255, asking 1 1 16777216 1000 0 0 1 0 255,
          asking 1 1 0 999 0 0 1 0 255, asking 1 1 0 1000001 0 0 1 0 255, asking 1 1 0 1000 2001 0 1 0 255,
          asking 1 1 0 1000 0 2 1 0 255, asking 1 1 0 1000 0 0 33 0 255, asking 1 1 0 1000 0 0 1 4001 255,
          asking 1 1 0 1000 0 0 1 61535 255, asking 1 1 0 1000 0 0 1 0 64].all
          (fun p => reply (.pnadmit 1 p) s == (.range, []))
      ∧ reply (.pnadmit 1 (asking 1 1 0 1000 0 0 2 0 255)) s = (.state, [])
      ∧ reply (.pnadmit 1 (asking 1 0 13599 1000 0 0 1 0 255)) s = (.headPassed, [])
      ∧ reply (.pnadmit 1 (asking 1 0 16790816 1000 0 0 1 0 255)) s = (.tooFar, [])
      ∧ reply (.pnadmit 1 (asking 1 0 29999 1000 0 0 1 0 255)) s = (.order, [])
      ∧ reply (.pnadmit 1 (asking 1 0 30000 1000 2000 1 32 4000 63)) s = (.state, [])
      ∧ (reply (.pnadmit 1 (asking 1 0 30000 1000000 2000 1 1 61536 63)) s).1 = .ok := by decide +kernel

theorem test_meets_AbortOutcomes :
    (fed 9999 [panel]).Holds (·.tag) [] panel [] ∧ panel.tag ≠ 0 ∧ (fed 9999 [panel]).phase panel = .waiting
      ∧ (fed 9999 [panel]).Untouched panel ∧ panel.cutPending = false
      ∧ (fed 10000 [panel]).phase panel ≠ .waiting ∧ panel.aborted = false
      ∧ (fed 10000 [{ panel with aborted := true }]).Holds (·.tag) [] { panel with aborted := true } []
      ∧ ¬ sewing.Untouched panel
      ∧ (fed 9999 [panel, later]).Holds (·.tag) [panel] later [] ∧ (∀ q ∈ [panel], q.head ≠ later.head)
      ∧ ∀ q ∈ sewing.table.records, q.tag.toNat ≠ 0x108 := by
  refine ⟨⟨rfl, by decide⟩, by decide, by decide +kernel, ?_, rfl, by decide +kernel, rfl, ⟨rfl, by decide⟩, ?_,
    ⟨rfl, by decide⟩, by decide, by decide +kernel⟩
  · intro b c h
    cases b <;> cases h
  · intro h
    exact absurd (h .B ⟨10000, .inside⟩ rfl) (by decide)

theorem test_meets_StatusMessageTaken : sewing.Holds (·.head) [] panel [] ∧ panel.head = 10000
    ∧ (panel.bars.get .B).status ≠ .absent ∧ (panel.bars.get .A).status = .absent
    ∧ ∀ q ∈ sewing.table.records, q.head ≠ 10001 := by
  refine ⟨⟨rfl, by decide⟩, rfl, by decide, by decide, by decide +kernel⟩

theorem test_meets_DefectNoticeFolded : sewing.Holds (·.head) [] panel [] ∧ LowestKind 0x82 .travelClamp
    ∧ LowestKind 0x100 .threadOut ∧ LowestKind 1 .longStitch ∧ LowestKind 0x2000 .aborted ∧ panel.policy = .stop
    ∧ (0x82 : DefectSet).getLsbD DefectKind.needleBreak.number = true
    ∧ (1 : DefectSet).getLsbD DefectKind.needleBreak.number = false ∧ panel.first = none
    ∧ (fed 0 [{ panel with first := some ⟨.lag, none, 0⟩, defects := 4 }]).Holds (·.head) []
      { panel with first := some ⟨.lag, none, 0⟩, defects := 4 } [] := by
  refine ⟨⟨rfl, by decide⟩, ⟨by decide, ?_⟩, ⟨by decide, ?_⟩, ⟨by decide, ?_⟩, ⟨by decide, ?_⟩, rfl, by decide, by decide,
    rfl, ⟨rfl, by decide⟩⟩ <;> intro j <;> cases j <;> decide

/-- The front panel one count before it is DUE, and before its head is reached. -/
theorem test_meets_ArrivalJudgesStarvation :
    let quiet (s : State) (w : Word) : Prop := ∀ r ∈ s.table.records.head?,
      webDist (w - BitVec.ofNat 32 s.params.offK) r.head < r.length ∨ webDist w r.head < 0
        ∨ webDist (w - BitVec.ofNat 32 s.params.offC) r.head < r.length;
    State.reset.countStep true false = .forward ∧ State.reset.cutter.state = .idle
      ∧ quiet (fed 59998 [panel]) 59999 ∧ quiet (fed 0 [panel]) 1 ∧ quiet State.reset 1 := by decide +kernel

theorem starves_at_limit : Starves Params.default 25000 [panel] :=
  ⟨panel, rfl, by decide, by decide⟩

theorem test_meets_PanelReports : sewing.Holds (·.tag) [] panel [] ∧ panel.tag ≠ 0
    ∧ (∀ q ∈ sewing.table.records, q.tag.toNat ≠ 65535) ∧ (∀ q ∈ sewing.table.records, q.tag.toNat ≠ 1) :=
  ⟨⟨rfl, by decide⟩, by decide, by decide +kernel, by decide +kernel⟩

/-- Sets 1 and 63, the numbers 0 and 39, and each refusal at its bound. -/
theorem test_meets_NeedleSetWritten : (63 : SetNo) ≠ 0 ∧ (∀ b ∈ raw [0, 39], b.toNat ≤ 39)
    ∧ State.reset.store.sets[(63 : SetNo)].refCount = 0 ∧ 0 < sewing.store.sets[(1 : SetNo)].refCount
    ∧ reply (.nswrite 1 [0, 0]) State.reset = (.range, []) ∧ reply (.nswrite 1 [64, 0]) State.reset = (.range, [])
    ∧ reply (.nswrite 1 [1, 1, 40]) State.reset = (.range, [])
    ∧ reply (.nswrite 1 ([1, 41] ++ List.replicate 41 0)) State.reset = (.range, [])
    ∧ reply (.nswrite 1 ([1, 40] ++ List.replicate 40 0)) State.reset = (.ok, [])
    ∧ reply (.nswrite 1 [1, 1]) State.reset = (.length, []) := by decide +kernel

theorem test_meets_StoreReported : reply (.nsinfo 1 [64]) sewing = (.range, [])
    ∧ reply (.ptinfo 1 [33]) sewing = (.range, []) ∧ reply (.ptread 1 [16, 0, 1]) sewing = (.range, [])
    ∧ reply (.ptread 1 [15, 64, 1]) sewing = (.range, []) ∧ reply (.ptread 1 [15, 63, 0]) sewing = (.range, [])
    ∧ reply (.ptread 1 [15, 63, 30]) sewing = (.range, []) ∧ (reply (.ptread 1 [15, 63, 29]) sewing).1 = .ok := by
  decide +kernel

theorem test_meets_PatternOpened : State.reset.store.patterns[(31 : PatternId)].state = .empty
    ∧ State.reset.store.owner[(15 : PageNo)] = none ∧ sewing.store.patterns[(0 : PatternId)].state ≠ .empty
    ∧ sewing.store.owner[(0 : PageNo)] ≠ none ∧ reply (.ptopen 1 [0, 0]) State.reset = (.range, [])
    ∧ reply (.ptopen 1 [33, 0]) State.reset = (.range, []) ∧ reply (.ptopen 1 [32, 16]) State.reset = (.range, [])
    ∧ reply (.ptopen 1 [2, 0]) sewing = (.pageOwned, []) := by decide +kernel

theorem test_meets_EntryLayout : (SegEntry.call 31 255).wf = true
    ∧ SegEntry.of? [3, 32, 255, 0, 0, 0, 0, 0] = some (.call 31 255) := by decide

theorem test_meets_EntriesWritten : let s := { State.reset with store := openStore };
    let es : List SegEntry := [.line 0 1 (-32767), .lock 63 15 255, .call 31 255, .link 15];
    (∀ e ∈ es, e.wf = true) ∧ s.store.patterns[(0 : PatternId)].state = .opened ∧ s.store.owner[(0 : PageNo)] = some 0
      ∧ s.store.owner[(15 : PageNo)] = none ∧ sewing.store.patterns[(0 : PatternId)].state ≠ .opened
      ∧ SegEntry.of? [1, 0, 0, 0, 0, 0, 0, 0] = none ∧ SegEntry.of? [2, 0, 16, 0, 0, 0, 0, 0] = none
      ∧ ({ s with store := s.store.setOwner 1 (some 5) }).store.owner[(1 : PageNo)] = some 5
      ∧ [([0, 0, 0, 1], 8), ([33, 0, 0, 1], 8), ([1, 16, 0, 1], 8), ([1, 0, 64, 1], 8), ([1, 0, 0, 0], 0),
          ([1, 0, 0, 30], 240)].all (fun q => reply (.ptwrite 1 (raw q.1 ++ List.replicate q.2 0)) s == (.range, []))
      ∧ reply (.ptwrite 1 (raw [32, 15, 63, 29] ++ List.replicate 232 0)) s = (.state, [])
      ∧ reply (.ptwrite 1 (raw [2, 0, 0, 1] ++ List.replicate 8 9)) s = (.state, [])
      ∧ reply (.ptwrite 1 (raw [1, 1, 0, 1] ++ List.replicate 8 9)) { s with store := s.store.setOwner 1 (some 5) }
        = (.pageOwned, []) := by decide +kernel

/-- A walk that ends at END, a loop that sews, a loop that does not, and each failure. -/
theorem test_meets_ClosingWalkFollowsPath :
    let put (e : SegEntry) : Store := { openStore with entries := openStore.entries.set 0 (Store.blankPage.set 0 e) };
    openStore.closingWalk 0 0 = .closed false [(0, 0), (0, 1)]
      ∧ (put (.line 1 1 0)).closingWalk 0 0 = .failed .badEntry (0, 1)
      ∧ (put (.call 0 1)).closingWalk 0 0 = .failed .badCall (0, 0)
      ∧ (put (.link 1)).closingWalk 0 0 = .failed .badLink (0, 0)
      ∧ (put (.link 0)).closingWalk 0 0 = .failed .badLoop (0, 0)
      ∧ ({ openStore with entries := openStore.entries.set 0 (openStore.entries[0].set 1 (.link 0)) }).closingWalk 0 0
        = .closed true [(0, 0), (0, 1)] := by decide +kernel

theorem test_meets_PatternClosed : openStore.patterns[(0 : PatternId)].state = .opened
    ∧ openStore.patterns[(0 : PatternId)].home = some 0 ∧ openStore.closingWalk 0 0 = .closed false [(0, 0), (0, 1)]
    ∧ (Store.reset.setPattern 0 ⟨.opened, some 0, false, 0⟩).closingWalk 0 0 = .failed .badEntry (0, 0)
    ∧ reply (.ptclose 1 [0]) sewing = (.range, []) ∧ reply (.ptclose 1 [33]) sewing = (.range, [])
    ∧ reply (.ptclose 1 [1]) sewing = (.state, []) := by decide +kernel

theorem test_meets_ReopenUndoesClose : openStore.patterns[(0 : PatternId)] = ⟨.opened, some 0, false, 0⟩
    ∧ openStore.closingWalk 0 0 = .closed false [(0, 0), (0, 1)]
    ∧ (let u := after (.ptclose 1 [1]) { State.reset with store := openStore };
      u.link.phase ≠ .ignored ∧ u.store.patterns[(0 : PatternId)].state = .closed
        ∧ u.store.patterns[(0 : PatternId)].useCount = 0)
    ∧ sewing.store.patterns[(0 : PatternId)].state = .closed ∧ 0 < sewing.store.patterns[(0 : PatternId)].useCount
    ∧ reply (.ptreopen 1 [0]) sewing = (.range, []) ∧ reply (.ptreopen 1 [33]) sewing = (.range, [])
    ∧ reply (.ptreopen 1 []) sewing = (.length, []) ∧ reply (.ptreopen 1 [2]) sewing = (.state, [])
    ∧ reply (.ptreopen 1 [1]) { State.reset with store := openStore } = (.state, []) := by decide +kernel

theorem test_meets_PatternDeleted : openStore.patterns[(0 : PatternId)] = ⟨.opened, some 0, false, 0⟩
    ∧ openStore.owner[(0 : PageNo)] = some 0 ∧ openStore.owner[(15 : PageNo)] ≠ some 0
    ∧ openStore.closingWalk 0 0 = .closed false [(0, 0), (0, 1)]
    ∧ State.reset.store.patterns[(0 : PatternId)].state = .empty
    ∧ reply (.ptdelete 1 [0]) sewing = (.range, []) ∧ reply (.ptdelete 1 [33]) sewing = (.range, [])
    ∧ reply (.ptdelete 1 [1, 1]) sewing = (.length, []) ∧ reply (.ptdelete 1 [1]) sewing = (.inUse, []) := by
  decide +kernel

theorem sewing_stroke (b : Bar) : sewing.StrokesAlone b :=
  ⟨⟨rfl, .inr rfl⟩, by intro m h; cases h⟩

/-- A first stroke of a rise, a bar with a stroke due of a rise past, and no stroke to take. -/
theorem test_meets_StrokeIsClassified : sewing.StrokeArrives .B
    ∧ (after (.strokeEvent .B) sewing).StrokeArrives .A ∧ ¬ (after (.strokeEvent .B) sewing).StrokeArrives .B
    ∧ (sewing.bars.get .A).reference.last = none ∧ (sewing.bars.get .B).reference.last = some 13550 := by
  refine ⟨(sewing_stroke .B).1, ⟨by decide +kernel, .inl (by decide +kernel)⟩, ?_, rfl, rfl⟩
  intro h
  have h0 : (after (.strokeEvent .B) sewing).strokesDue.get .B = 0 := by decide +kernel
  have h1 : (after (.strokeEvent .B) sewing).inputs.stroke = true := by decide +kernel
  exact h.2.elim (fun h => h h0) (fun h => by rw [h1] at h; cases h)

/-- Bar B runs and bar A is stopped; FREEZE halts a running bar, and a transfer in flight is overtaken. -/
theorem test_meets_StrokeSettlesControl : sewing.StrokeArrives .B ∧ sewing.RunsNext .B ∧ ¬ sewing.RunsNext .A
    ∧ (let f := after (.freeze true) sewing; (f.bars.get .B).control.run = .running ∧ ¬ f.RunsNext .B
      ∧ f.inputs.freeze = true)
    ∧ ((after (.strokeEvent .B) sewing).bars.get .B).control.transfer ≠ none := by
  refine ⟨(sewing_stroke .B).1, ⟨rfl, rfl, rfl, .inr ⟨rfl, rfl, rfl⟩⟩, ?_, ⟨rfl, ?_, rfl⟩, by decide +kernel⟩
  · rintro ⟨-, -, -, h | ⟨-, -, h⟩⟩ <;> cases h
  · rintro ⟨-, h, -, -⟩; cases h

theorem sewing_runs : sewing.RunsNext .B := ⟨rfl, rfl, rfl, .inr ⟨rfl, rfl, rfl⟩⟩

theorem sewing_forward : sewing.ForwardNext .B := ⟨50, ⟨13550, rfl, by decide⟩, by decide⟩

theorem sewing_covers : sewing.Covers .B panel := ⟨[], [], rfl, ⟨by decide, by decide⟩, by intro q h; cases h⟩

theorem test_meets_StrokeActsWithinBounds : sewing.StrokeArrives .B
    ∧ sewing.params.xMin.get .B ≤ (sewing.bars.get .B).place.x
    ∧ (sewing.bars.get .B).place.x ≤ sewing.params.xMax.get .B
    ∧ (after (.strokeEvent .B) sewing).bars.b.place.previous.needles.getLsbD 4 = true := by
  exact ⟨(sewing_stroke .B).1, by decide, by decide, by decide +kernel⟩

/-- A running forward stroke, a running stroke of too short an advance, and a stopped stroke. -/
theorem test_meets_StrokeTakesAndSendsMessages : sewing.StrokeArrives .B ∧ sewing.RunsNext .B
    ∧ sewing.AdvanceIs .B 50 ∧ (sewing.params.slMin : Int) ≤ 50 ∧ ¬ sewing.RunsNext .A
    ∧ (fed 13569 [panel]).params.slMin = 20 ∧ webDist 13569 13550 = 19 :=
  ⟨(sewing_stroke .B).1, sewing_runs, ⟨13550, rfl, by decide⟩, by decide, test_meets_StrokeSettlesControl.2.2.1, rfl,
    by decide⟩

/-- Bar A has never been in a panel and stops over one; bar B leaves one for the next at a stroke of no advance. -/
def entering : State := { sewing with
  bars := sewing.bars.set .B { sewing.bars.b with
    reference := ⟨some 13600, .normal, 50⟩
    place := { sewing.bars.b.place with current := some ⟨8000, .left⟩ } } }

theorem test_meets_StrokeEntersPanel : sewing.StrokesAlone .A ∧ sewing.Covers .A panel
    ∧ (sewing.bars.get .A).place.current = none ∧ ¬ sewing.RunsNext .A
    ∧ entering.StrokesAlone .B ∧ entering.Covers .B panel
    ∧ (entering.bars.get .B).place.current = some ⟨8000, .left⟩ ∧ 0 < webDist panel.head 8000
    ∧ entering.RunsNext .B ∧ (∀ adv, entering.AdvanceIs .B adv → adv < entering.params.slMin ∨ adv < 0)
    ∧ (panel.bars.get .B).pattern ≠ none ∧ (panel.bars.get .A).pattern = none := by
  refine ⟨sewing_stroke .A, ⟨[], [], rfl, ⟨by decide, by decide⟩, by intro q h; cases h⟩, rfl,
    test_meets_StrokeSettlesControl.2.2.1, ⟨⟨rfl, .inr rfl⟩, by intro m h; cases h⟩,
    ⟨[], [], rfl, ⟨by decide, by decide⟩, by intro q h; cases h⟩, rfl, by decide, ⟨rfl, rfl, rfl, .inr ⟨rfl, rfl, rfl⟩⟩, ?_,
    by decide, rfl⟩
  rintro adv ⟨last, h, rfl⟩
  have reference : (entering.bars.get .B).reference.last = some 13600 := rfl
  rw [reference, Option.some.injEq] at h
  rw [← h]
  left
  decide

/-- A frozen bar in its panel, and one that creeps there by less than SL_MIN. -/
theorem test_meets_StrokeEntersPanel_staying :
    (let s := after (.freeze true) sewing;
      s.StrokesAlone .B ∧ s.StandsIn .B panel ∧ ¬ s.RunsNext .B ∧ s.bars.b.place.stoppedInPanel = false)
    ∧ (let s := { entering with bars := sewing.bars.set .B { sewing.bars.b with reference := ⟨some 13600, .normal, 50⟩ } };
      s.StandsIn .B panel ∧ s.RunsNext .B ∧ ∀ adv, s.AdvanceIs .B adv → adv < s.params.slMin ∨ adv < 0) := by
  refine ⟨⟨⟨⟨rfl, .inr rfl⟩, by intro m h; cases h⟩,
    ⟨⟨[], [], rfl, ⟨by decide +kernel, by decide +kernel⟩, by intro q h; cases h⟩, rfl⟩,
    test_meets_StrokeSettlesControl.2.2.2.1.2.1, rfl⟩,
    ⟨⟨[], [], rfl, ⟨by decide +kernel, by decide +kernel⟩, by intro q h; cases h⟩, rfl⟩,
    ⟨rfl, rfl, rfl, .inr ⟨rfl, rfl, rfl⟩⟩, ?_⟩
  rintro adv ⟨last, h, rfl⟩
  cases (Option.some.inj h : (13600 : Word) = last)
  exact .inl (by decide +kernel)

/-- Bar B with its panel's end just passed, near the end and short of it. -/
def leaving (w : Word) (lastY : Int) (records : List PanelRecord) : State := { sewing with
  w := w
  table := ⟨records, false⟩
  bars := sewing.bars.set .B { sewing.bars.b with place := { sewing.bars.b.place with lastY := lastY } } }

/-- Bar B on a placement stroke at the place where one panel ends and the next begins. -/
def crossing : State := { leaving 31850 19800 [panel, later] with
  bars := sewing.bars.set .B { sewing.bars.b with
    reference := ⟨some 31800, .normal, 50⟩
    place := { sewing.bars.b.place with lastY := 19800 } } }

/-- It leaves a panel it is in for a newer one, and the stroke is a placement stroke. -/
theorem test_meets_StrokeEntersPanel_leaving : crossing.StrokesAlone .B ∧ crossing.Covers .B later
    ∧ crossing.InPanel .B panel ∧ 0 < webDist later.head 10000 ∧ crossing.RunsNext .B ∧ crossing.ForwardNext .B
    ∧ crossing.TellsLeaving .B ⟨.B, 10000, .short⟩ ∧ crossing.NotesLeaving .B 10000 .barShort
    ∧ crossing.NotesLeaving .B 10000 .tieShort := by
  have inPanel : crossing.InPanel .B panel := ⟨rfl, [], [later], rfl, by decide⟩
  refine ⟨⟨⟨rfl, .inr rfl⟩, by intro m h; cases h⟩,
    ⟨[panel], [], rfl, ⟨by decide +kernel, by decide +kernel⟩, ?_⟩, inPanel, by decide,
    ⟨rfl, rfl, rfl, .inr ⟨rfl, rfl, rfl⟩⟩, ⟨50, ⟨31800, rfl, by decide +kernel⟩, by decide⟩,
    ⟨panel, inPanel, by decide, rfl, by decide⟩, ⟨panel, inPanel, rfl, by decide, .inl ⟨rfl, rfl, by decide⟩⟩,
    ⟨panel, inPanel, rfl, by decide, .inr ⟨rfl, rfl, .inr ⟨by decide, by decide, ⟨0x1111, .inl
      ⟨⟨0, 0, 0⟩, 1, rfl, by decide +kernel, .inl ⟨1500, -700, by decide +kernel⟩⟩, by decide⟩, by decide⟩⟩⟩⟩
  intro q hq ho
  rw [List.mem_singleton.mp hq] at ho
  have past : ¬ crossing.yAt .B panel.head < panel.length := by decide +kernel
  exact past ho.2

theorem leaving_not_over (w : Word) (lastY : Int) (h : ¬ (webDist (w - 1800) 10000 < 20000
    ∧ 0 ≤ webDist (w - 1800) 10000)) : ∀ r ∈ (leaving w lastY [panel]).table.records, ¬ (leaving w lastY [panel]).Over .B r := by
  intro r hr ho
  simp only [leaving, List.mem_singleton] at hr
  subst hr
  exact h ⟨ho.2, ho.1⟩

theorem test_meets_StrokeLeavesPanel :
    (leaving 31800 19920 [panel]).StrokesAlone .B
    ∧ ((leaving 31800 19920 [panel]).bars.get .B).place.current = some ⟨10000, .inside⟩
    ∧ (∀ r ∈ (leaving 31800 19920 [panel]).table.records, ¬ (leaving 31800 19920 [panel]).Over .B r)
    ∧ (leaving 31800 19920 [panel]).Holds (·.head) [] panel []
    ∧ (leaving 31800 19920 [panel]).yAt .B 10000 = 20000
    ∧ (panel.length : Int) - Params.default.slMax = 19920
    ∧ ((leaving 31800 19919 [panel]).bars.get .B).place.lastY = 19919
    ∧ (leaving 11799 0 [panel]).yAt .B 10000 = -1
    ∧ (∀ r ∈ (leaving 11799 0 [panel]).table.records, ¬ (leaving 11799 0 [panel]).Over .B r)
    ∧ (leaving 31800 0 []).table.records = [] := by
  exact ⟨⟨⟨rfl, .inr rfl⟩, by intro m h; cases h⟩, rfl, leaving_not_over _ _ (by decide), ⟨rfl, by decide⟩,
    by decide +kernel, by decide, rfl, by decide +kernel, leaving_not_over _ _ (by decide), rfl⟩

/-- Bar B over a panel that it has left, and over one older than the panel it is in. -/
theorem test_meets_StrokeLeavesPanel_over :
    (let s := { sewing with bars := sewing.bars.set .B { sewing.bars.b with
        place := { sewing.bars.b.place with current := some ⟨10000, .left⟩ } } };
      s.StrokesAlone .B ∧ s.Covers .B panel ∧ (s.bars.get .B).place.current = some ⟨panel.head, .left⟩)
    ∧ (let s := { fed 13600 [panel, later] with bars := sewing.bars.set .B { sewing.bars.b with
        place := { sewing.bars.b.place with current := some ⟨30000, .inside⟩ } } };
      s.StrokesAlone .B ∧ s.Covers .B panel ∧ (s.bars.get .B).place.current = some ⟨30000, .inside⟩
        ∧ ¬ 0 < webDist panel.head 30000 ∧ s.Holds (·.head) [panel] later [] ∧ s.yAt .B 30000 < (later.length : Int)) := by
  refine ⟨⟨⟨⟨rfl, .inr rfl⟩, by intro m h; cases h⟩, ⟨[], [], rfl, ⟨by decide, by decide⟩, by intro q h; cases h⟩, rfl⟩,
    ⟨⟨rfl, .inr rfl⟩, by intro m h; cases h⟩, ⟨[], [later], rfl, ⟨by decide, by decide⟩, by intro q h; cases h⟩, rfl,
    by decide, ⟨rfl, by decide⟩, by decide⟩

/-- The first row of section 4.9: 800 wc of 1,500 on a LINE over -700 give -373; and a LOCK with strokes left. -/
theorem test_meets_StrokePlacedOnSegment : sewing.StrokesAlone .B ∧ sewing.RunsNext .B ∧ sewing.ForwardNext .B
    ∧ 1 ≤ sewing.params.slMin ∧ sewing.StandsIn .B panel ∧ (panel.bars.get .B).pattern ≠ none
    ∧ (sewing.bars.get .B).place.tail = .outside ∧ sewing.yAt .B panel.head < (panel.length : Int) - panel.tailMargin
    ∧ (sewing.bars.get .B).place.finished = false ∧ (sewing.bars.get .B).place.cursor = some ⟨0, 0, 0⟩
    ∧ sewing.store.entry (0, 0) = .line 1 1500 (-700) ∧ sewing.yAt .B panel.head - 1000 = 800
    ∧ 2 * ((-373) * (1500 : Int) - (-700) * 800).natAbs ≤ 1500
    ∧ (let s := { sewing with store := sewing.store.write (0, 0) (.lock 1 1 255) };
      s.store.entry (0, 0) = .lock 1 1 255 ∧ (s.bars.get .B).place.lockCount < 1) := by
  exact ⟨sewing_stroke .B, sewing_runs, sewing_forward, by decide, ⟨sewing_covers, rfl⟩, by decide, rfl,
    by decide +kernel, rfl, rfl, by decide +kernel, by decide +kernel, by decide, by decide +kernel⟩

/-- The first stroke of the tail zone, and one within it, with the set under the cursor not empty and empty. -/
def tailing (w : Word) (tail : TailState) : State := { sewing with
  w := w
  bars := sewing.bars.set .B { sewing.bars.b with
    reference := ⟨some (w - 50), .normal, 50⟩
    place := { sewing.bars.b.place with tail := tail } } }

theorem tailing_stands : (tailing 31400 .outside).StandsIn .B panel ∧ (tailing 31799 (.tie 4)).StandsIn .B panel :=
  ⟨⟨⟨[], [], rfl, ⟨by decide +kernel, by decide +kernel⟩, by intro q h; cases h⟩, rfl⟩,
    ⟨⟨[], [], rfl, ⟨by decide +kernel, by decide +kernel⟩, by intro q h; cases h⟩, rfl⟩⟩

theorem test_meets_StrokeTiesTail : (tailing 31400 .outside).StrokesAlone .B ∧ (tailing 31400 .outside).RunsNext .B
    ∧ (tailing 31400 .outside).ForwardNext .B ∧ (tailing 31400 .outside).StandsIn .B panel
    ∧ (tailing 31400 .outside).yAt .B panel.head = (panel.length : Int) - panel.tailMargin
    ∧ (tailing 31799 (.tie 4)).StandsIn .B panel ∧ (tailing 31799 (.tie 4)).bars.b.place.tail = .tie 4
    ∧ (tailing 31799 (.tie 4)).params.tailTie = 4
    ∧ (tailing 31400 .outside).store.entry (0, 0) = .line 1 1500 (-700)
    ∧ (tailing 31400 .outside).store.sets[(1 : SetNo)].members = 0x1111 := by
  exact ⟨⟨⟨rfl, .inr rfl⟩, by intro m h; cases h⟩, ⟨rfl, rfl, rfl, .inr ⟨rfl, rfl, rfl⟩⟩, ⟨50, ⟨_, rfl, by decide⟩, by decide⟩,
    tailing_stands.1, by decide +kernel, tailing_stands.2, rfl, rfl, by decide +kernel, by decide +kernel⟩

/-- The cursor on no entry and on each entry that names no set. -/
theorem test_meets_StrokeTiesTail_none :
    (((tailing 31400 .outside).bars.map (fun c : BarContext => { c with place := { c.place with cursor := none } })).get
        .B).place.cursor = none
    ∧ sewing.store.entry (0, 1) = .fin ∧ sewing.store.entry (1, 0) = .empty
    ∧ [SegEntry.call 3 1, SegEntry.link 4].all (fun e => (sewing.store.write (0, 0) e).entry (0, 0) == e) := by
  decide +kernel

theorem test_meets_BarRequestsStage : sewing.inputs.freeze = false ∧ sewing.inputs.driveFault.get .B = false
    ∧ (after (.freeze true) sewing).inputs.freeze = true
    ∧ (after (.driveFault .B true) sewing).inputs.driveFault.get .B = true
    ∧ reply (.brun 1 [3]) sewing = (.range, []) ∧ reply (.boverride 1 [0, 1, 40]) sewing = (.range, [])
    ∧ reply (.boverride 1 ([0, 41] ++ List.replicate 41 0)) sewing = (.range, [])
    ∧ reply (.brehearse 1 [0, 2]) sewing = (.range, []) ∧ reply (.boverride 1 [0]) sewing = (.length, []) := by
  decide +kernel

theorem test_meets_LevelsAndEchoes : sewing.inputs.operates = true ∧ (sewing.bars.get .B).control.transfer = none
    ∧ ((after (.strokeEvent .B) sewing).bars.get .B).control.transfer = some ⟨0x1011, some 10000⟩ := by decide +kernel

/-- After a faulty echo the bar's next stroke arrives. -/
theorem test_meets_LevelsAndEchoes_next : let s := after .strokeFall (after (.strokeEvent .B) sewing);
    s.bars.b.control.transfer = some ⟨0x1011, some 10000⟩ ∧ s.bars.b.control.run = .running
      ∧ (after (.selectEcho .B 0x1010) s).StrokeArrives .B ∧ s.bars.b.place.current = some ⟨10000, .inside⟩
      ∧ s.bars.b.place.stoppedInPanel = false ∧ s.yAt .B 10000 = 1800 := by
  exact ⟨by decide +kernel, by decide +kernel, ⟨by decide +kernel, .inr (by decide +kernel)⟩, by decide +kernel,
    by decide +kernel, by decide +kernel⟩

/-- A scan in flight that expects a needle and one that expects none; countdowns of 2 and of 1. -/
theorem test_meets_ScanRequestTaken : (scanning spooled).scans.get .A = .scanning ⟨0x80, some 10000⟩
    ∧ ((withNeedle { spooled with state := .broken, countdown := some 2 }).needle .A 7).countdown = some (0 + 2)
    ∧ ((withNeedle { spooled with state := .broken, countdown := some 1 }).needle .A 7).countdown = some 1
    ∧ (sewing.needle .A 7).state ≠ .broken := by decide +kernel

/-- A miss below the limit and at it, a break below the limit and at it, progress below its length and at it, and a
probation that fails. -/
theorem test_meets_ScanEvaluated : let p := Params.default;
    (scanning spooled).scans.get .A = .scanning ⟨0x80, some 10000⟩ ∧ (0x80 : NeedleSet).getLsbD 7 = true
      ∧ (scanning { spooled with misses := 1 }).needle .A 7 = { spooled with misses := 1 } ∧ 1 + 1 < p.missLimit
      ∧ p.missLimit ≤ 2 + 1 ∧ 2 + 1 < p.breakLimit ∧ p.breakLimit ≤ 3 + 1 ∧ 8 + 1 < p.probation
      ∧ p.probation ≤ 9 + 1 ∧ 0 < p.retries ∧ sewing.scans.get .A = .atRest
      ∧ (after (.lineclear 1 []) (scanning spooled)).scans.get .A = .abandoned
      ∧ ((after (.scanDataArrival .A 0) (scanning { spooled with state := .probation })).needle .A 7).state = .broken
      ∧ ((after (.scanDataArrival .A 0) (scanning { spooled with misses := 2, breaks := 3 })).needle .A 7).state
        = .retired := by decide +kernel

/-- 50 wc at 224 sixty-fourths round up to 175; a needle with more thread, and one with exactly as much. -/
theorem test_meets_ThreadConsumed : (1 : Int) ≤ 50 ∧ 1 ≤ sewing.params.threadFactor.get .B
    ∧ min (50 : Int) 1023 * sewing.params.threadFactor.get .B ≤ 64 * (175 : Nat)
    ∧ 64 * (((175 : Nat) : Int) - 1) < min 50 1023 * sewing.params.threadFactor.get .B
    ∧ 175 < (sewing.needle .B 0).thread
    ∧ ((withNeedle { spooled with thread := 175 }).needle .A 7).thread ≤ 175
    ∧ ((withNeedle { spooled with thread := 175, state := .retired }).needle .A 7).state = .retired := by decide +kernel

theorem test_meets_NeedleRequestsAct : (sewing.needle .B 8).state = .broken
    ∧ ((withNeedle { spooled with state := .probation }).needle .A 7).state = .probation
    ∧ ((withNeedle { spooled with state := .retired }).needle .A 7).state = .retired
    ∧ (State.reset.needle .A 0).state = .threadOut ∧ reply (.ndrearm 1 [3, 0]) sewing = (.range, [])
    ∧ reply (.ndrearm 1 [0, 40]) sewing = (.range, []) ∧ reply (.ndload 1 [0, 40, 0, 0, 0, 1]) sewing = (.range, [])
    ∧ reply (.ndload 1 [0, 0, 0, 0, 0, 0]) sewing = (.range, [])
    ∧ reply (.ndload 1 ([0, 0] ++ bytesOf 4 2000000001)) sewing = (.range, [])
    ∧ reply (.ndload 1 ([0, 0] ++ bytesOf 4 2000000000)) sewing = (.ok, [0]) := by decide +kernel

theorem test_meets_BarAndNeedleReports : (sewing.bars.get .B).place.stack.length ≤ 4
    ∧ reply (.binfo 1 [3]) sewing = (.range, []) ∧ reply (.ndinfoBar 1 3) sewing = (.range, [])
    ∧ reply (.ndinfo 1 [0, 40]) sewing = (.range, []) := by decide +kernel

theorem test_meets_EventRequestsAct : reply (.maskset 1 [4, 0, 0, 0]) sewing = (.range, [])
    ∧ reply (.maskclear 1 [0, 0x20, 0, 0]) sewing = (.range, [])
    ∧ reply (.evack 1 [0x20, 0, 0]) sewing = (.range, []) := by decide +kernel

theorem reset_rests : State.reset.Resting := ⟨rfl, by intro b; cases b <;> decide⟩

theorem sewing_works : ¬ sewing.Resting := fun h => absurd h.1 (by decide)

/-- An id of the rest class and one above it, a value at the bound of its range and one past it. -/
theorem test_meets_ParameterWritten : State.reset.Resting ∧ ¬ sewing.Resting
    ∧ Params.default.Admits (fun _ => 0) 1 1 ∧ ¬ Params.default.Admits (fun _ => 0) 1 3600
    ∧ Params.default.Admits (fun _ => 0) 8 15 ∧ ¬ Params.default.Admits (fun _ => 0) 8 16
    ∧ Params.default.Admits (fun _ => -50) 10 (-50) ∧ ¬ Params.default.Admits (fun _ => -50) 10 (-49)
    ∧ Params.default.Admits (fun _ => 0) 29 65535 ∧ Params.default.Admits (fun _ => 0) 32 1
    ∧ ¬ Params.default.Admits (fun _ => 0) 32 2 := by
  refine ⟨reset_rests, sewing_works, ?_⟩
  simp only [Params.Admits]
  decide

theorem test_meets_ParameterWritten_refusals : reply (.cfwrite 1 [0, 0, 0, 0, 1]) sewing = (.range, [])
    ∧ reply (.cfwrite 1 [33, 0, 0, 0, 1]) sewing = (.range, []) ∧ reply (.cfwrite 1 [32, 0, 0, 0]) sewing = (.length, [])
    ∧ reply (.cfwrite 1 [1, 0, 0, 0, 1]) sewing = (.busy, []) := by decide +kernel

theorem test_meets_OwnRowsWritten : State.reset.Resting ∧ ¬ sewing.Resting ∧ (65535 : BitVec 32).toInt = 65535
    ∧ (15 : BitVec 32).toInt = 15 ∧ (0xFFFFFFFF : BitVec 32).toInt < 0 ∧ 65535 < (65536 : BitVec 32).toInt
    ∧ 15 < (16 : BitVec 32).toInt :=
  ⟨reset_rests, sewing_works, by decide, by decide, by decide, by decide, by decide⟩

theorem test_meets_TransactionsBeginAndEnd : State.reset.inputs.operates = true ∧ State.reset.link.phase = .idle
    ∧ (after (.nop 1 []) State.reset).link.phase = .answered
    ∧ (after .powerOn (after .linkTransactionStart State.reset)).link.phase = .ignored
    ∧ (after .linkTransactionStart State.reset).link.phase = .opened ∧ (List.replicate 7 true).length < 8
    ∧ (after .linkTransactionStart State.reset).link.output = ⟨0, 0, .ok, []⟩
    ∧ (after .linkTransactionStart (after (.frameError (bitsOf [1])) State.reset)).link.output = ⟨0, 0, .frameError, []⟩
    ∧ State.reset.params.linkCheck = true ∧ (0x4D : Byte) ≠ crc8 [0x56, 0x01, 0x00] ∧ 240 < (241 : Byte).toNat := by
  decide +kernel

theorem test_meets_FramesCarryRequests : (0x4C : Byte) = crc8 ([0x56, 0x01, BitVec.ofNat 8 0] ++ [])
    ∧ (0x17 : Byte).toNat ∉ catalogue ∧ State.reset.link.phase ≠ .answered ∧ (List.replicate 240 (0 : Byte)).length ≤ 240 := by decide +kernel

theorem test_meets_FramesDecodeToTheirRequests : (Instr.posread 1 []).wf = true
    ∧ encode (.posread 1 []) = some [0x56, 0x01, 0x00, 0x4C] ∧ (List.replicate 7 true).length < 8
    ∧ (0x17 : Byte).toNat ∉ catalogue := by decide

/-- Two panels, the cut of the first pending. -/
theorem test_meets_cutter_invariant : (cutting 60010 .requesting [due, later]).CutterWf :=
  ⟨due, [later], rfl, rfl, rfl, by decide⟩

theorem lineStore_pages (g : PageNo) : g = 0 ∨ lineStore.entries[g] = Store.blankPage := by
  revert g
  decide +kernel

theorem lineStore_entry (g : PageNo) (i : EntryNo) (h : g ≠ 0) : lineStore.entry (g, i) = .empty := by
  have page : lineStore.entries[g] = Store.blankPage := (lineStore_pages g).resolve_left h
  show lineStore.entries[g][i] = .empty
  rw [page]
  exact Vector.getElem_replicate _

theorem lineStore_wf : lineStore.Wf where
  entries g i := by
    by_cases h : g = 0
    · subst h
      revert i
      decide +kernel
    · rw [lineStore_entry g i h]
      rfl
  free g i h := lineStore_entry g i (by rintro rfl; revert h; decide +kernel)
  empty := by decide +kernel
  homed := by decide +kernel
  opened := by decide +kernel
  setZero := by decide +kernel

/-- The same store with no live record naming the pattern. -/
def unusedStore : Store := lineStore.setPattern 0 ⟨.closed, some 0, false, 0⟩

theorem unusedStore_wf : unusedStore.Wf where
  entries := lineStore_wf.entries
  free := lineStore_wf.free
  empty := by decide +kernel
  homed := by decide +kernel
  opened := by decide +kernel
  setZero := by decide +kernel

theorem lineStore_counted : lineStore.Counted [panel] where
  walks p h := by
    have first : p = 0 := by revert p; decide +kernel
    subst first
    exact ⟨0, [(0, 0), (0, 1)], by decide +kernel, by decide +kernel⟩
  uses := by decide +kernel
  refs := by decide +kernel

theorem unusedStore_counted : unusedStore.Counted [] where
  walks p h := by
    have first : p = 0 := by revert p; decide +kernel
    subst first
    exact ⟨0, [(0, 0), (0, 1)], by decide +kernel, by decide +kernel⟩
  uses := by decide +kernel
  refs := by decide +kernel

theorem sewing_bars_wf (b : Bar) : (sewing.bars.get b).Wf sewing.params b := by
  cases b <;> refine ⟨⟨by decide, by decide, by decide, by decide, by decide, by decide, by decide, ?_, .inl rfl⟩,
    by decide, ?_⟩ <;> intro f h <;> cases h

theorem sewing_needles_wf (b : Bar) (n : NeedleNo) : (sewing.needle b n).Wf sewing.params := by
  have h : ∀ r ∈ [spooled, { spooled with state := .broken }], r.Wf sewing.params := by
    intro r h
    simp only [List.mem_cons, List.not_mem_nil, or_false] at h
    obtain rfl | rfl := h <;> constructor <;> decide
  apply h
  cases b <;> revert n <;> decide +kernel

theorem sewing_events_wf (e : Sticky) : (sewing.event e).Wf e := by
  cases e <;> constructor <;> decide

/-- The lag sequence with another store and other records meets the invariant when these do. -/
theorem sewing_wf_with (store : Store) (records : List PanelRecord) (pending : List Instr) (wf : store.Wf)
    (counted : store.Counted records) (table : (⟨records, false⟩ : PanelTable).Wf)
    (cuts : ∀ r ∈ records, r.cutPending = false) :
    ({ sewing with store := store, table := ⟨records, false⟩, pending := pending }).Wf where
  params := params_default_wf
  store := wf
  counted := counted
  table := table
  cutter := ⟨rfl, cuts⟩
  bars := sewing_bars_wf
  needles := sewing_needles_wf
  events := sewing_events_wf

/-- The whole invariant is met by the lag sequence, with a stroke of bar B to come. -/
theorem test_meets_StepKeeps : ({ sewing with pending := [.strokeEvent .B] }).Wf :=
  sewing_wf_with lineStore [panel] _ lineStore_wf lineStore_counted ⟨by decide, by
    intro r h
    rw [List.mem_singleton.mp h]
    exact panel_wf, by decide⟩ (by decide)

theorem test_meets_StepKeeps_step : ∃ t, step { sewing with pending := [.strokeEvent .B] } = .next t := ⟨_, rfl⟩

/-- A CLOSED pattern that is not used, in a well-formed state. -/
theorem test_meets_ReopenUndoesClose_unused : let s := { sewing with store := unusedStore, table := ⟨[], false⟩ };
    s.Wf ∧ s.takesFrames ∧ s.store.patterns[(0 : PatternId)].state = .closed
      ∧ s.store.patterns[(0 : PatternId)].useCount = 0 :=
  ⟨sewing_wf_with unusedStore [] _ unusedStore_wf unusedStore_counted ⟨by decide, by simp, by decide⟩ (by simp),
    ⟨rfl, by decide⟩, by decide +kernel, by decide +kernel⟩

/-- Two panels head to tail, within 2^29 counts of the web. -/
theorem test_meets_StepKeepsTableCutterEvents : (fed 13600 [panel, later]).Exact
    ∧ (fed 13600 [panel, later]).table.Ordered ∧ webDist later.head (panel.head + BitVec.ofNat 32 panel.length) = 0 := by
  refine ⟨by unfold State.Exact; decide, ?_, by decide⟩
  exact .cons (by decide) (.cons (by simp) .nil)

/-! ### A walk of the cursor -/

/-- A store in which every entry of page 0 is a LINE over one web count. -/
def fineStore : Store :=
  { lineStore with entries := lineStore.entries.set 0 (Vector.replicate 64 (.line 1 1 0)) }

/-- Bar B of the lag sequence on another segment, with its Ys given. -/
def walking (store : Store) (ys : Int) : State := { sewing with
  store := store
  bars := sewing.bars.set .B { sewing.bars.b with place := { sewing.bars.b.place with ys := ys, ps := 0 } } }

/-- Its context after k steps along LINEs over one web count. -/
def stepped (k : EntryNo) : Place :=
  { sewing.bars.b.place with ys := k.val, ps := 0, cursor := some ⟨0, 0, k⟩ }

theorem stepped_step (k : EntryNo) (h : k.val < 8) : ¬ fineStore.Covered 1800 (stepped k)
    ∧ (stepped k).finished = false ∧ fineStore.StepsTo 0 1800 (stepped k) (stepped (k + 1)) := by
  have entry : fineStore.entry (0, k) = .line 1 1 0 := by revert k; decide +kernel
  refine ⟨?_, rfl, ⟨0, 0, k⟩, rfl, ?_⟩
  · rintro ⟨c, hc, ⟨set, dy, dx, he, hy⟩ | ⟨set, n, a, he, -⟩⟩ <;> cases hc
    · rw [entry] at he
      cases he
      simp only [stepped] at hy
      omega
    · rw [entry] at he
      cases he
  · simp only [entry]
    have next : ((k + 1 : EntryNo).val : Int) = k.val + 1 := by revert k; decide
    simp only [stepped, next]
    rfl

/-- Eight steps of one web count each leave a stroke at Y = 1,800 uncovered. -/
theorem test_meets_CursorWalkFollowsEntries_overrun : let path := (List.finRange 9).map (fun k => stepped (Fin.castLE
      (by decide) k));
    path.head? = some (((walking fineStore 0).bars.get .B).place) ∧ path.length = 9
      ∧ fineStore.Walks 0 1800 path := by
  refine ⟨by decide +kernel, by decide, ?_⟩
  have chain : ∀ ks : List EntryNo, ks.IsChain (fun a z => a.val < 8 ∧ z = a + 1) →
      (ks.map stepped).IsChain (fun a z => ¬ fineStore.Covered 1800 a ∧ a.finished = false
        ∧ fineStore.StepsTo 0 1800 a z) := by
    intro ks h
    rw [List.isChain_map]
    exact h.imp (fun {a z} hz => by rw [hz.2]; exact stepped_step a hz.1)
  exact chain [0, 1, 2, 3, 4, 5, 6, 7, 8] (by decide)

/-- One step past a LINE of 1,500 onto a LINE that covers, and two steps to END and finished. -/
theorem test_meets_CursorWalkFollowsEntries : sewing.StandsIn .B panel ∧ sewing.yAt .B panel.head = 1800
    ∧ (let q := ((walking lineStore 0).bars.get .B).place;
      let a : Place := { q with ys := 1500, ps := -700, cursor := some ⟨0, 0, 1⟩ };
      lineStore.Walks 0 1800 [q, a, { a with finished := true }]
        ∧ (lineStore.write (0, 1) (.lock 1 1 0)).StepsTo 0 1800 q a
        ∧ (lineStore.write (0, 1) (.lock 1 1 0)).Covered 1800 a) := by
  have line : lineStore.entry (0, 0) = .line 1 1500 (-700) := by decide +kernel
  have fin : lineStore.entry (0, 1) = .fin := by decide +kernel
  have kept : (lineStore.write (0, 1) (.lock 1 1 0)).entry (0, 0) = .line 1 1500 (-700) := by decide +kernel
  refine ⟨⟨sewing_covers, rfl⟩, by decide +kernel, .cons_cons ⟨?_, rfl, ⟨0, 0, 0⟩, rfl, ?_⟩
    (.cons_cons ⟨?_, rfl, ⟨0, 0, 1⟩, rfl, ?_⟩ (.singleton _)), ⟨⟨0, 0, 0⟩, rfl, ?_⟩, ⟨⟨0, 0, 1⟩, rfl, .inr ?_⟩⟩
  · rintro ⟨c, hc, ⟨set, dy, dx, he, hy⟩ | ⟨set, n, a, he, -⟩⟩ <;> cases hc <;> rw [line] at he <;> cases he
    exact absurd hy (by decide)
  · simp only [line]
    rfl
  · rintro ⟨c, hc, ⟨set, dy, dx, he, -⟩ | ⟨set, n, a, he, -⟩⟩ <;> cases hc <;> rw [fin] at he <;> cases he
  · simp only [fin]
    trivial
  · simp only [kept]
    rfl
  · exact ⟨1, 1, 0, by decide +kernel, by decide⟩

end Sys2Proof.Tests
end

section
/-! PROOF. What a bar's stroke event finds once the bar's own messages are taken: where the panels lie and whether
BAR_HALTED was raised do not depend on the messages, and the bars do not depend on messages the bar sent itself (R89). -/

namespace Sys2Proof.Machine

variable {s : State}

/-! ### The messages a bar sent, taken -/

/-- What a stroke of a bar reads of a panel record to find its panel: the head, the length and the bar's pattern. -/
def PanelRecord.site (b : Bar) (r : PanelRecord) : Word × Nat × Option PatternId :=
  (r.head, r.length, (r.bars.get b).pattern)

theorem PanelRecord.site_setStatus (b c : Bar) (r : PanelRecord) (status : BarStatus) :
    (r.setStatus c status).site b = r.site b := by
  cases b <;> cases c <;> rfl

theorem PanelRecord.site_fold (b : Bar) (r : PanelRecord) (bar : Option Bar) (kinds : DefectSet) (y : Int) :
    (r.fold bar kinds y).site b = r.site b := by
  rcases bar with - | c
  · rfl
  · cases b <;> cases c <;> rfl

/-- The sites of the records of the table, oldest first. -/
def State.sites (s : State) (b : Bar) : List (Word × Nat × Option PatternId) :=
  s.table.records.map (PanelRecord.site b)

theorem State.sites_fold (b : Bar) (h : Word) (bar : Option Bar) (kinds : DefectSet) (y : Int) :
    (s.fold h bar kinds y).sites b = s.sites b := by
  unfold State.fold
  split
  · rfl
  · simpa [State.sites] using map_updateHead (PanelRecord.site b) (fun r => r.site_fold b bar kinds y) s.table.records

theorem State.sites_takeNotice (b : Bar) (n : DefectNotice) : (s.takeNotice n).sites b = s.sites b := by
  unfold State.takeNotice
  split
  · rfl
  · dsimp only
    split <;> exact State.sites_fold b n.head (some n.bar) n.kinds n.y

theorem State.sites_takeStatus (b : Bar) (m : StatusMessage) : (s.takeStatus m).sites b = s.sites b := by
  refine map_updateHead (PanelRecord.site b) (fun r => ?_) s.table.records
  split
  · rfl
  · exact r.site_setStatus b m.bar _

/-- No message moves a panel on the web or changes a bar's pattern in it. -/
theorem State.sites_deliver (b : Bar) (m : Message) : (s.deliver m).sites b = s.sites b := by
  cases m with
  | status m => exact State.sites_takeStatus b m
  | notice n => exact State.sites_takeNotice b n
  | consumption n => simp [State.deliver, State.sites]
  | scan r => simp [State.deliver, State.sites]

theorem State.fold_event_of_ne {e : Sticky} (he : e ≠ .panelDefect) (h : Word) (bar : Option Bar) (kinds : DefectSet)
    (y : Int) : (s.fold h bar kinds y).event e = s.event e := by
  unfold State.fold
  split
  · rfl
  · exact State.event_raiseIf_of_ne _ _ _ he

theorem State.takeNotice_barHalted (n : DefectNotice) : (s.takeNotice n).event .barHalted = s.event .barHalted := by
  have folded := State.fold_event_of_ne (s := s) (e := .barHalted) (by decide) n.head (some n.bar) n.kinds n.y
  unfold State.takeNotice
  split
  · rfl
  · dsimp only
    split
    · exact (State.event_raise_of_ne _ _ (by decide)).trans folded
    · exact folded

theorem drawNeedle_barHalted (b : Bar) (c : Nat) (a : State × Bool) (n : NeedleNo) :
    (drawNeedle b c a n).1.event .barHalted = a.1.event .barHalted :=
  (State.event_raiseIf_of_ne _ _ _ (by decide)).trans (State.event_raiseIf_of_ne _ _ _ (by decide))

theorem drawNeedles_barHalted (b : Bar) (c : Nat) (ns : List NeedleNo) (a : State × Bool) :
    (ns.foldl (drawNeedle b c) a).1.event .barHalted = a.1.event .barHalted := by
  induction ns generalizing a with
  | nil => rfl
  | cons n ns ih => exact (ih _).trans (drawNeedle_barHalted b c a n)

theorem State.takeConsumption_barHalted (n : ConsumptionNotice) :
    (s.takeConsumption n).event .barHalted = s.event .barHalted := by
  have drawn := drawNeedles_barHalted n.bar (threadDrawn n.advance (s.params.threadFactor.get n.bar))
    (members n.frame) (s, false)
  unfold State.takeConsumption
  dsimp only
  split
  · simpa only [State.event, State.sendMonitorNotice_events] using drawn
  · exact drawn

theorem State.takeScanRequest_barHalted (r : ScanRequest) :
    (s.takeScanRequest r).event .barHalted = s.event .barHalted := by
  have overtaken : (s.overtakeScan r.bar).event .barHalted = s.event .barHalted := by
    unfold State.overtakeScan
    split
    · exact State.event_raiseIf_of_ne _ _ _ (by decide)
    · rfl
  unfold State.takeScanRequest
  dsimp only
  split <;> exact overtaken

/-- No receiver of a message raises BAR_HALTED: a bar's own stroke alone does (R95). -/
theorem State.deliver_barHalted (m : Message) : (s.deliver m).event .barHalted = s.event .barHalted := by
  cases m with
  | status m => simp [State.deliver, State.event]
  | notice n => exact State.takeNotice_barHalted n
  | consumption n => exact State.takeConsumption_barHalted n
  | scan r => exact State.takeScanRequest_barHalted r

/-- A notice without BREAK and THREAD_OUT latches nothing (R54). -/
theorem State.takeNotice_bars {n : DefectNotice} (hn : Machine.answered n.kinds = false) :
    (s.takeNotice n).bars = s.bars := by
  unfold State.takeNotice
  split
  · rfl
  · simp [hn]

/-- A message that a bar sent changes no bar: only the monitor's notices are answered with a latch (R54, R89). -/
theorem State.deliver_bars {b : Bar} {m : Message} (hm : m.sentBy b = true) : (s.deliver m).bars = s.bars := by
  cases m with
  | status m => simp [State.deliver]
  | notice n =>
    have hn : Machine.answered n.kinds = false := by
      simp only [Message.sentBy, Bool.and_eq_true, Bool.not_eq_true'] at hm
      exact hm.2
    exact State.takeNotice_bars hn
  | consumption n => simp [State.deliver]
  | scan r => simp [State.deliver]

theorem State.sentBy_of_mem_ownMessages {b : Bar} {m : Message} (hm : m ∈ s.ownMessages b) : m.sentBy b = true := by
  unfold State.ownMessages at hm
  dsimp only at hm
  split at hm
  · rcases List.mem_append.mp hm with h | h <;> exact List.of_mem_filter (List.mem_of_mem_filter h)
  · exact List.of_mem_filter hm

/-- What each of a bar's own messages keeps, and what does not read the messages in flight, the flush keeps. -/
theorem State.flush_keeps {α : Type} (read : State → α) {b : Bar}
    (hdeliver : ∀ (u : State) (m : Message), m.sentBy b = true → read (u.deliver m) = read u)
    (hqueue : ∀ (u : State) (ms : List Message) (n : Nat), read { u with messages := ms, choices := n } = read u) :
    read (s.flush b) = read s := by
  have taken : ∀ (ms : List Message) (u : State), (∀ m ∈ ms, m.sentBy b = true) →
      read (ms.foldl State.deliver u) = read u := by
    intro ms
    induction ms with
    | nil => exact fun _ _ => rfl
    | cons m ms ih =>
      intro u own
      exact (ih _ (fun m' hm' => own m' (List.mem_cons_of_mem _ hm'))).trans (hdeliver u m (own m List.mem_cons_self))
  unfold State.flush
  split
  · rfl
  · exact (taken _ _ (fun _ => State.sentBy_of_mem_ownMessages)).trans (hqueue s _ _)

theorem State.flush_bars (b : Bar) : (s.flush b).bars = s.bars :=
  State.flush_keeps State.bars (fun _ _ => State.deliver_bars) (fun _ _ _ => rfl)

theorem State.flush_sites (b : Bar) : (s.flush b).sites b = s.sites b :=
  State.flush_keeps (State.sites · b) (fun _ m _ => State.sites_deliver b m) (fun _ _ _ => rfl)

theorem State.flush_barHalted (b : Bar) : (s.flush b).event .barHalted = s.event .barHalted :=
  State.flush_keeps (State.event · .barHalted) (fun _ m _ => State.deliver_barHalted m) (fun _ _ _ => rfl)

/-! ### The stroke that arrives -/

/-- A state that a bar's stroke is evaluated in, against the state its stroke event arrives in: the web, the parameters,
the bars, the sites of the panels and the slot of BAR_HALTED are those of the arrival. -/
structure State.StrokeMeets (s v : State) (b : Bar) : Prop where
  w : v.w = s.w
  params : v.params = s.params
  bars : v.bars = s.bars
  sites : v.sites b = s.sites b
  barHalted : v.event .barHalted = s.event .barHalted

theorem State.StrokeMeets.linePosition {v : State} {b : Bar} (h : s.StrokeMeets v b) :
    v.linePosition b = s.linePosition b := by
  simp only [State.linePosition, h.w, h.params]

theorem exec_strokeEvent (b : Bar) (s : State) : exec (.strokeEvent b) s = execStrokeEvent b s := rfl

/-- What a stroke event takes of the pulse that is due or rises leaves the bar's messages and its stroke to be taken
(R89, R171). -/
theorem State.strokeEvent_of_arrives {b : Bar} (h : s.StrokeArrives b) :
    ∃ (due : PerBar Nat) (level : Bool), s.strokeEvent b = State.evaluateStroke
      (State.flush { s with strokesDue := due, inputs := { s.inputs with stroke := level } } b) b := by
  unfold State.strokeEvent
  by_cases hd : s.strokesDue.get b = 0
  · have hl : s.inputs.stroke = false := h.2.resolve_left (absurd hd)
    refine ⟨(s.strokesDue.map (· + 1)).set b ((s.strokesDue.map (· + 1)).get b - 1), true, ?_⟩
    simp [hd, State.strokeEdge, hl, State.takeStroke, State.setStroke]
  · refine ⟨s.strokesDue.set b (s.strokesDue.get b - 1), s.inputs.stroke, ?_⟩
    simp [hd, State.takeStroke]

/-- A stroke event that arrives evaluates the stroke in a state that differs from the arrival by the bar's messages
taken. -/
theorem exec_strokeEvent_of_arrives {b : Bar} (h : s.StrokeArrives b) :
    ∃ v, exec (.strokeEvent b) s = .next (v.evaluateStroke b) ∧ s.StrokeMeets v b := by
  obtain ⟨due, level, hs⟩ := State.strokeEvent_of_arrives h
  refine ⟨_, by rw [exec_strokeEvent, execStrokeEvent, if_pos h.1, hs], ?_⟩
  exact ⟨State.flush_w _ b, State.flush_params _ b, State.flush_bars b, State.flush_sites b, State.flush_barHalted b⟩

end Sys2Proof.Machine
end

section
/-! PROOF. A stopped stroke: what a bar with a latched halt reason does at its next stroke (R68, R70, R91, R95). -/

namespace Sys2Proof.Machine

variable {s : State} {k : Stroke} {w : Work}

/-! ### The stages of a stroke keep the previous frame -/

@[simp] theorem Work.note_place (c : Bool) (head : Word) (kind : DefectKind) : (w.note c head kind).place = w.place := by
  unfold Work.note
  split <;> rfl

@[simp] theorem Work.tell_place (b : Bar) (head : Word) (news : StatusNews) : (w.tell b head news).place = w.place :=
  rfl

@[simp] theorem Stroke.judge_place (r : PanelRecord) : (k.judge r w).place = w.place := by
  unfold Stroke.judge
  dsimp only
  split_ifs <;> simp

@[simp] theorem Stroke.leave_previous (c : CurrentPanel) : (k.leave c w).place.previous = w.place.previous := by
  unfold Stroke.leave
  dsimp only
  split <;> simp [Work.setPlace]

@[simp] theorem Stroke.markStopped_previous (r : PanelRecord) :
    (k.markStopped r w).place.previous = w.place.previous := by
  unfold Stroke.markStopped
  dsimp only
  split_ifs <;> simp [Work.setPlace]

@[simp] theorem Stroke.enter_previous (r : PanelRecord) : (k.enter r w).place.previous = w.place.previous := by
  unfold Stroke.enter
  dsimp only
  split <;> simp [Work.setPlace]

@[simp] theorem Stroke.stay_previous (r : PanelRecord) : (k.stay r w).place.previous = w.place.previous := by
  simp [Stroke.stay, Work.setPlace]

@[simp] theorem Stroke.gap_previous : (k.gap w).place.previous = w.place.previous := by
  unfold Stroke.gap
  repeat' split
  all_goals simp

/-- Locating the panel leaves the previous frame. -/
theorem Stroke.locate_previous : (k.locate w).place.previous = w.place.previous := by
  unfold Stroke.locate
  repeat' split
  all_goals simp

/-! ### A bar that stands in a panel -/

/-- Whether a line lies in a panel of a given site (R64). -/
def lineWithin (line : Word) (site : Word × Nat × Option PatternId) : Bool :=
  0 ≤ webDist line site.1 && webDist line site.1 < site.2.1

theorem State.lineWithin_site {b : Bar} {r : PanelRecord} :
    lineWithin (s.linePosition b) (r.site b) = true ↔ s.Over b r := by
  simp only [lineWithin, Bool.and_eq_true, decide_eq_true_eq]
  rfl

theorem Stroke.covering_site (b : Bar) :
    k.covering.map (PanelRecord.site b) = (k.state.sites b).find? (lineWithin k.line) := by
  rw [State.sites, List.find?_map]
  rfl

theorem State.Covers.find_site {b : Bar} {r : PanelRecord} (h : s.Covers b r) :
    (s.sites b).find? (lineWithin (s.linePosition b)) = some (r.site b) := by
  obtain ⟨pre, post, ht, lies, first⟩ := h
  have before : pre.find? (lineWithin (s.linePosition b) ∘ PanelRecord.site b) = none :=
    List.find?_eq_none.mpr fun q hq within => first q hq (State.lineWithin_site.mp within)
  have here : (lineWithin (s.linePosition b) ∘ PanelRecord.site b) r = true := State.lineWithin_site.mpr lies
  rw [State.sites, List.find?_map, ht, List.find?_append, before, List.find?_cons_of_pos here]
  rfl

/-- The stroke finds the panel that covered the bar's line when its stroke event arrived, with the same site. -/
theorem State.StrokeMeets.covering {v : State} {b : Bar} {r : PanelRecord} (h : s.StrokeMeets v b)
    (hr : s.Covers b r) : ∃ q, (v.strokeOf b).covering = some q ∧ q.site b = r.site b := by
  refine Option.map_eq_some_iff.mp ?_
  rw [Stroke.covering_site b]
  show (v.sites b).find? (lineWithin (v.linePosition b)) = some (r.site b)
  rw [h.sites, h.linePosition, hr.find_site]

/-- A stroke located in the panel the bar is in stays there (R64, R68). -/
theorem Stroke.locate_of_inside {r : PanelRecord} (hr : k.covering = some r)
    (hw : w.place.current = some ⟨r.head, .inside⟩) : k.locate w = k.stay r w := by
  simp [Stroke.locate, hr, hw]

/-- The first stopped stroke in a panel that has a pattern for the bar notes BAR_SHORT and tells SHORT (R68). -/
theorem Stroke.markStopped_first {r : PanelRecord} (hk : k.running = false) (hw : w.place.stoppedInPanel = false)
    (hp : (k.panelBar r).pattern ≠ none) :
    (k.markStopped r w).news = w.news ++ [⟨k.bar, r.head, .short⟩]
      ∧ (k.markStopped r w).notes = addNote r.head DefectKind.barShort.bit w.notes := by
  simp [Stroke.markStopped, hk, hw, hp, Work.note, Work.tell, Work.setPlace]

/-! ### The stopped stroke -/

/-- A latched reason stops the bar at its next stroke: a run or a stop taken then changes no latched reason (R95). -/
theorem strokeRuns_of_latched {b : Bar} {c : Control} (h : c.latched.any = true) (i : Inputs) :
    strokeRuns i b c = false := by
  simp [strokeRuns, haltReasons, HaltReasons.any, HaltReasons.beyondRequested, Control.applyStaged, h]

/-- A latched reason is one beyond the requested halt, so that BAR_HALTED is raised when the bar was running (R95). -/
theorem haltsBar_of_latched {b : Bar} {c : Control} (h : c.latched.any = true) (i : Inputs) :
    haltsBar i b c = decide (c.run = .running) := by
  simp [haltsBar, strokeRuns_of_latched h i, haltReasons, HaltReasons.beyondRequested, Control.applyStaged, h]

theorem Stroke.finish_of_stopped (hk : k.running = false) : k.finish = (k.locate k.start).empty .stopped := by
  simp [Stroke.finish, Stroke.act, hk]

theorem Stroke.start_notes (h : (k.state.bars.get k.bar).control.transfer = none) : k.start.notes = [] := by
  simp [Stroke.start, h]

/-- The panel of a note that holds a kind gets a notice with the stroke's Y (R88). -/
theorem Stroke.notice_mem {head : Word} {kinds : DefectSet} (h : (head, kinds) ∈ w.notes) (hk : kinds ≠ 0) :
    .notice ⟨k.bar, head, kinds, k.y head⟩ ∈ k.notices w :=
  List.mem_map.mpr ⟨(head, kinds), List.mem_filter.mpr ⟨h, by simpa using hk⟩, rfl⟩

theorem State.evaluateStroke_messages (b : Bar) :
    (s.evaluateStroke b).messages = s.messages ++ (s.strokeOf b).messages (s.strokeOf b).finish := by
  simp [State.evaluateStroke]

theorem State.evaluateStroke_barHalted (b : Bar) : (s.evaluateStroke b).event .barHalted =
    if haltsBar s.inputs b (s.bars.get b).control then (s.event .barHalted).raise (some (.bar b))
    else s.event .barHalted := by
  refine Eq.trans (State.event_raiseIf_of_ne _ _ _ (by decide)) ?_
  unfold State.raiseIf
  split
  · exact State.event_raise_self _ _ _
  · rfl

theorem State.evaluateStroke_bar (b : Bar) : (s.evaluateStroke b).bars.get b =
    { reference := classify s.params s.w (s.bars.get b).reference
      control := (s.strokeOf b).sentControl (s.strokeOf b).finish
      place := (s.strokeOf b).sentPlace (s.strokeOf b).finish } := by
  simp [State.evaluateStroke]

variable {b : Bar}

theorem State.strokeOf_running_of_latched (h : (s.bars.get b).control.latched.any = true) :
    (s.strokeOf b).running = false :=
  strokeRuns_of_latched h s.inputs

/-- The stroke leaves the bar STOPPED, in its run state and in its outcome (R70, R95). -/
theorem State.evaluateStroke_stopped (h : (s.bars.get b).control.latched.any = true) :
    ((s.evaluateStroke b).bars.get b).control.run = .stopped
      ∧ ((s.evaluateStroke b).bars.get b).place.outcome = .stopped := by
  have hk := State.strokeOf_running_of_latched h
  rw [State.evaluateStroke_bar]
  constructor
  · simp [Stroke.sentControl, State.strokeOf, settledControl, strokeRuns_of_latched h]
  · simp [Stroke.sentPlace, Stroke.finish_of_stopped hk, Work.empty, Work.setPlace]

/-- A running bar is halted, and BAR_HALTED raised with the bar (R95). -/
theorem State.evaluateStroke_halts (h : (s.bars.get b).control.latched.any = true)
    (hr : (s.bars.get b).control.run = .running) :
    (s.evaluateStroke b).event .barHalted = raised (s.event .barHalted) (.bar b) := by
  rw [State.evaluateStroke_barHalted, haltsBar_of_latched h, hr]
  rfl

/-- A stopped stroke asks a scan against the frame sent at the stroke before it (R91). -/
theorem State.evaluateStroke_scan (h : (s.bars.get b).control.latched.any = true) :
    .scan ⟨b, false, (s.bars.get b).place.previous.needles, (s.bars.get b).place.previous.panel⟩
      ∈ (s.evaluateStroke b).messages := by
  have hk := State.strokeOf_running_of_latched h
  have previous : (s.strokeOf b).finish.place.previous = (s.bars.get b).place.previous := by
    rw [Stroke.finish_of_stopped hk]
    exact Stroke.locate_previous
  rw [State.evaluateStroke_messages, Stroke.messages, hk, previous]
  exact List.mem_append_right _ List.mem_concat_self

/-- A stopped stroke in a panel that the bar is in, with a pattern there and no stop told before, tells SHORT and notes
BAR_SHORT; with no transfer overtaken it notes nothing else (R68, R88). -/
theorem State.evaluateStroke_tells_short {r : PanelRecord} (h : (s.bars.get b).control.latched.any = true)
    (hn : (s.bars.get b).control.transfer = none) (hr : (s.strokeOf b).covering = some r)
    (hc : (s.bars.get b).place.current = some ⟨r.head, .inside⟩) (hp : (r.bars.get b).pattern ≠ none)
    (hs : (s.bars.get b).place.stoppedInPanel = false) :
    .status ⟨b, r.head, .short⟩ ∈ (s.evaluateStroke b).messages
      ∧ .notice ⟨b, r.head, DefectKind.barShort.bit, s.yAt b r.head⟩ ∈ (s.evaluateStroke b).messages := by
  have hk := State.strokeOf_running_of_latched h
  have located : (s.strokeOf b).finish = ((s.strokeOf b).stay r (s.strokeOf b).start).empty .stopped := by
    rw [Stroke.finish_of_stopped hk, Stroke.locate_of_inside hr hc]
  obtain ⟨news, notes⟩ := Stroke.markStopped_first (k := s.strokeOf b) (r := r)
    (w := (s.strokeOf b).start.setPlace { (s.bars.get b).place with
      lastY := max (s.bars.get b).place.lastY ((s.strokeOf b).y r.head) }) hk hs hp
  have told : (s.strokeOf b).finish.news = [⟨b, r.head, .short⟩] := by
    rw [located]
    exact news
  have noted : (s.strokeOf b).finish.notes = [(r.head, DefectKind.barShort.bit)] := by
    rw [located]
    refine notes.trans ?_
    simp only [Work.setPlace, Stroke.start_notes (k := s.strokeOf b) hn]
    rfl
  have notice : .notice ⟨b, r.head, DefectKind.barShort.bit, s.yAt b r.head⟩
      ∈ (s.strokeOf b).notices (s.strokeOf b).finish :=
    Stroke.notice_mem (by rw [noted]; exact List.mem_singleton_self _) (by decide)
  rw [State.evaluateStroke_messages, Stroke.messages, told]
  exact ⟨by simp, by simp [notice]⟩

/-- A stroke event that arrives at a bar with a latched reason and no transfer in flight (R68, R70, R91, R95). -/
theorem exec_strokeEvent_of_latched (ha : s.StrokeArrives b) (h : (s.bars.get b).control.latched.any = true)
    (hn : (s.bars.get b).control.transfer = none) :
    ∃ u, exec (.strokeEvent b) s = .next u
      ∧ (u.bars.get b).control.run = .stopped ∧ (u.bars.get b).place.outcome = .stopped
      ∧ ((s.bars.get b).control.run = .running → u.event .barHalted = raised (s.event .barHalted) (.bar b))
      ∧ .scan ⟨b, false, (s.bars.get b).place.previous.needles, (s.bars.get b).place.previous.panel⟩ ∈ u.messages
      ∧ ∀ r, s.StandsIn b r → (r.bars.get b).pattern ≠ none → (s.bars.get b).place.stoppedInPanel = false →
        .status ⟨b, r.head, .short⟩ ∈ u.messages
          ∧ .notice ⟨b, r.head, DefectKind.barShort.bit, s.yAt b r.head⟩ ∈ u.messages := by
  obtain ⟨v, hv, meets⟩ := exec_strokeEvent_of_arrives ha
  simp only [← meets.bars, ← meets.barHalted] at h hn ⊢
  obtain ⟨run, outcome⟩ := State.evaluateStroke_stopped h
  refine ⟨_, hv, run, outcome, State.evaluateStroke_halts h, State.evaluateStroke_scan h, ?_⟩
  rintro r ⟨covers, inside⟩ hp hs
  obtain ⟨q, hq, site⟩ := meets.covering covers
  simp only [PanelRecord.site, Prod.mk.injEq] at site
  obtain ⟨head, -, pattern⟩ := site
  rw [← head, State.yAt, ← meets.linePosition]
  refine State.evaluateStroke_tells_short h hn hq ?_ (pattern ▸ hp) hs
  rw [meets.bars, inside, head]

end Sys2Proof.Machine
end

section
/-! PROOF. FREEZE, DRIVE_FAULT and the select echo (R93, R104, R106). -/

namespace Sys2Proof.Machine

theorem exec_freeze (level : Bool) (s : State) : exec (.freeze level) s = execFreeze level s := rfl

theorem exec_driveFault (b : Bar) (level : Bool) (s : State) :
    exec (.driveFault b level) s = execDriveFault b level s := rfl

theorem exec_selectEcho (h : s.inputs.operates = true) (b : Bar) (echo : NeedleSet) :
    exec (.selectEcho b echo) s = .next (s.takeEcho b echo) :=
  arrival_next h (fun s => s.takeEcho b echo)

section

variable {s : State} {b : Bar} {echo : NeedleSet} {sent : SentFrame}

/-- The state after an echo that differs from the frame sent: the transfer ended, SELECT latched, SELECT_FAULT raised
with the bar (R106). -/
def State.echoFaulted (s : State) (b : Bar) : State :=
  let c := (s.bars.get b).control
  { s with
    bars := s.bars.set b { s.bars.get b with control := { c with
      transfer := none
      latched := { c.latched with select := true } } }
    events := s.events.set 10 (raised (s.event .selectFault) (.bar b)) }

theorem State.get_echoFaulted : (s.echoFaulted b).bars.get b =
    { s.bars.get b with control := { (s.bars.get b).control with
      transfer := none
      latched := { (s.bars.get b).control.latched with select := true } } } :=
  PerBar.get_set_self _ _ _

theorem State.echoFaulted_latched : ((s.echoFaulted b).bars.get b).control.latched.any = true := by
  rw [State.get_echoFaulted]
  rfl

/-- With no transfer in flight an echo is ignored (R106). -/
theorem State.takeEcho_of_none (h : (s.bars.get b).control.transfer = none) : s.takeEcho b echo = s := by
  simp [State.takeEcho, h]

/-- An echo of the frame sent ends the transfer and does nothing else (R106). -/
theorem State.takeEcho_of_eq (h : (s.bars.get b).control.transfer = some sent) (he : echo = sent.needles) :
    s.takeEcho b echo = s.setControl b { (s.bars.get b).control with transfer := none } := by
  simp [State.takeEcho, h, he]

/-- An echo that differs from the frame sent is a select fault (R106). -/
theorem State.takeEcho_of_ne (h : (s.bars.get b).control.transfer = some sent) (he : echo ≠ sent.needles) :
    s.takeEcho b echo = s.echoFaulted b := by
  simp only [State.takeEcho, h, if_neg he]
  cases b <;> rfl

end

/-- Settles O40: the levels and the three echo cases by the model's own cases of `takeEcho`; the stroke after a faulty
echo by `exec_strokeEvent_of_latched`, in the state the echo leaves. -/
theorem levelsAndEchoes : Obligations.LevelsAndEchoes := by
  intro s b operates
  refine ⟨fun level => ⟨exec_freeze level s, exec_driveFault b level s⟩, fun echo => ?_⟩
  rw [exec_selectEcho operates]
  refine ⟨fun idle => by rw [State.takeEcho_of_none idle], fun sent transfer => ⟨fun same => ?_, fun differs => ?_⟩⟩
  · have equal : echo = sent.needles := BitVec.eq_of_getLsbD_eq fun i hi => same ⟨i, hi⟩
    rw [State.takeEcho_of_eq transfer equal]
    rfl
  · have unequal : echo ≠ sent.needles := by
      rintro rfl
      obtain ⟨n, hn⟩ := differs
      exact hn rfl
    refine ⟨s.echoFaulted b, by rw [State.takeEcho_of_ne transfer unequal], rfl, fun arrives => ?_⟩
    obtain ⟨u, hu, run, outcome, halted, scan, short⟩ :=
      exec_strokeEvent_of_latched arrives State.echoFaulted_latched (by rw [State.get_echoFaulted])
    rw [State.get_echoFaulted] at halted scan short
    refine ⟨u, hu, run, outcome, halted, scan, fun r stands pattern first => ?_⟩
    obtain ⟨status, notice⟩ := short r stands pattern first
    exact ⟨status, _, notice, by decide⟩

end Sys2Proof.Machine
end

section
/-! PROOF. The evaluation of a scan: each needle of the expected set is found in its record before the evaluation, so
that what is written, raised and noticed can be read off one needle at a time (R115 to R120, R133). -/

namespace Sys2Proof.Machine

/-! ### What the evaluation of one needle finds -/

section

variable {p : Params} {r : NeedleRecord} {motion : Bool}

/-- A needle that is neither READY nor PROBATION is left as it is (R116). -/
theorem scanNeedle_of_not_fit (h : ¬ r.Fit) : scanNeedle p motion r = .quiet r := by
  unfold scanNeedle
  split
  · exact absurd (.inl ‹_›) h
  · exact absurd (.inr ‹_›) h
  · rfl

theorem scanNeedle_of_ready (h : r.state = .ready) : scanNeedle p motion r = scanReady p motion r := by
  simp [scanNeedle, h]

theorem scanNeedle_of_probation (h : r.state = .probation) :
    scanNeedle p motion r = scanProbation p motion r := by
  simp [scanNeedle, h]

/-! #### Its record -/

/-- A READY needle with motion forgets its misses (R117). -/
theorem scanNeedle_ready_motion (h : r.state = .ready) : (scanNeedle p true r).record = { r with misses := 0 } := by
  rw [scanNeedle_of_ready h]
  rfl

/-- A READY needle without motion gathers a miss while it stays below MISS_LIMIT (R117). -/
theorem scanNeedle_ready_below (h : r.state = .ready) (hm : r.misses + 1 < p.missLimit) :
    (scanNeedle p false r).record = { r with misses := r.misses + 1 } := by
  simp [scanNeedle_of_ready h, scanReady, hm.not_ge, ScanFinding.quiet]

theorem scanNeedle_ready_limit (h : r.state = .ready) (hm : p.missLimit ≤ r.misses + 1) :
    scanNeedle p false r = breakNeedle p r := by
  simp [scanNeedle_of_ready h, scanReady, hm]

/-- A break below BREAK_LIMIT leaves the needle BROKEN, with its retries and the countdown to the first (R118). -/
theorem breakNeedle_below (h : r.breaks + 1 < p.breakLimit) : (breakNeedle p r).record =
    { r with
      state := .broken
      misses := 0
      breaks := r.breaks + 1
      retries := p.retries
      countdown := if 0 < p.retries then some p.retryGap else none } := by
  simp [breakNeedle, h.not_ge]

/-- The break that comes to BREAK_LIMIT retires the needle (R118). -/
theorem breakNeedle_limit (h : p.breakLimit ≤ r.breaks + 1) : (breakNeedle p r).record =
    { r with state := .retired, misses := 0, breaks := r.breaks + 1 } := by
  simp [breakNeedle, h]

/-- A PROBATION needle with motion gathers progress (R119). -/
theorem scanNeedle_probation_below (h : r.state = .probation) (hp : r.progress + 1 < p.probation) :
    (scanNeedle p true r).record = { r with progress := r.progress + 1 } := by
  simp [scanNeedle_of_probation h, scanProbation, hp.not_ge, ScanFinding.quiet]

/-- At the length of its probation the needle is READY again (R119). -/
theorem scanNeedle_probation_end (h : r.state = .probation) (hp : p.probation ≤ r.progress + 1) :
    (scanNeedle p true r).record = { r with state := .ready, progress := 0, misses := 0 } := by
  simp [scanNeedle_of_probation h, scanProbation, hp]

/-- A PROBATION needle without motion fails: it is BROKEN, with a countdown while retries are left (R119). -/
theorem scanNeedle_probation_still (h : r.state = .probation) : (scanNeedle p false r).record =
    { r with
      state := .broken
      progress := 0
      countdown := if 0 < r.retries then some p.retryGap else none } := by
  rw [scanNeedle_of_probation h]
  rfl

/-! #### What it raises -/

/-- Whether a finding raises a sticky source (R116, R118, R119). -/
def ScanFinding.raises (f : ScanFinding) : Sticky → Bool
  | .needleBroken => f.broke
  | .needleRetired => f.retired
  | .probationPassed => f.passed
  | _ => false

theorem ScanFinding.raises_of_ne (f : ScanFinding) {e : Sticky} (hb : e ≠ .needleBroken) (hr : e ≠ .needleRetired)
    (hp : e ≠ .probationPassed) : f.raises e = false := by
  cases e <;> first | rfl | contradiction

theorem scanReady_broke : (scanReady p motion r).broke = (!motion && decide (p.missLimit ≤ r.misses + 1)) := by
  unfold scanReady breakNeedle
  split_ifs <;> simp [*, ScanFinding.quiet]

theorem scanReady_retired : (scanReady p motion r).retired =
    (!motion && (decide (p.missLimit ≤ r.misses + 1) && decide (p.breakLimit ≤ r.breaks + 1))) := by
  unfold scanReady breakNeedle
  split_ifs <;> simp [*, ScanFinding.quiet]

theorem scanReady_passed : (scanReady p motion r).passed = false := by
  unfold scanReady breakNeedle
  split_ifs <;> rfl

theorem scanProbation_broke : (scanProbation p motion r).broke = !motion := by
  unfold scanProbation
  split_ifs <;> simp [*, ScanFinding.quiet]

theorem scanProbation_retired : (scanProbation p motion r).retired = false := by
  unfold scanProbation
  split_ifs <;> rfl

theorem scanProbation_passed :
    (scanProbation p motion r).passed = (motion && decide (p.probation ≤ r.progress + 1)) := by
  unfold scanProbation
  split_ifs <;> simp [*, ScanFinding.quiet]

/-- A needle counts as a break exactly when it is READY and comes to MISS_LIMIT, or fails its probation
(R117, R119). -/
theorem scanNeedle_broke_iff : (scanNeedle p motion r).broke = true ↔
    (r.state = .ready ∧ motion = false ∧ p.missLimit ≤ r.misses + 1) ∨ (r.state = .probation ∧ motion = false) := by
  cases hs : r.state with
  | ready => simp [scanNeedle_of_ready hs, scanReady_broke]
  | probation => simp [scanNeedle_of_probation hs, scanProbation_broke]
  | broken | retired | threadOut => simp [scanNeedle, hs, ScanFinding.quiet]

/-- A needle is retired exactly when it is READY, comes to MISS_LIMIT and with that break to BREAK_LIMIT (R118). -/
theorem scanNeedle_retired_iff : (scanNeedle p motion r).retired = true ↔
    r.state = .ready ∧ motion = false ∧ p.missLimit ≤ r.misses + 1 ∧ p.breakLimit ≤ r.breaks + 1 := by
  cases hs : r.state with
  | ready => simp [scanNeedle_of_ready hs, scanReady_retired]
  | probation => simp [scanNeedle_of_probation hs, scanProbation_retired]
  | broken | retired | threadOut => simp [scanNeedle, hs, ScanFinding.quiet]

/-- A needle passes exactly when it is in PROBATION and its progress comes to the length of the probation (R119). -/
theorem scanNeedle_passed_iff : (scanNeedle p motion r).passed = true ↔
    r.state = .probation ∧ motion = true ∧ p.probation ≤ r.progress + 1 := by
  cases hs : r.state with
  | ready => simp [scanNeedle_of_ready hs, scanReady_passed]
  | probation => simp [scanNeedle_of_probation hs, scanProbation_passed]
  | broken | retired | threadOut => simp [scanNeedle, hs, ScanFinding.quiet]

end

/-! ### The members of a set -/

theorem mem_members {set : NeedleSet} {n : NeedleNo} : n ∈ members set ↔ set.getLsbD n.val = true := by
  simp [members, allNeedles]

theorem members_ascending (set : NeedleSet) : (members set).Pairwise (· < ·) :=
  (List.pairwise_lt_finRange 40).filter _

theorem members_nodup (set : NeedleSet) : (members set).Nodup := (members_ascending set).imp ne_of_lt

/-! ### Findings written back -/

variable {s : State} {b : Bar} {channels : NeedleSet} {scan : Scan}

/-- What the evaluation of a needle finds, on the channel SKEW gives it (R115, R116). -/
def State.finding (s : State) (b : Bar) (channels : NeedleSet) (n : NeedleNo) : ScanFinding :=
  scanNeedle s.params (channels.getLsbD (channelOf (s.params.skew.get b) n)) (s.needle b n)

theorem evaluateNeedle_eq (a : State × Bool) (n : NeedleNo) : evaluateNeedle b channels a n =
    (a.1.applyFinding b n (a.1.finding b channels n), a.2 || (a.1.finding b channels n).broke) :=
  rfl

theorem State.needle_applyFinding (c : Bar) (n m : NeedleNo) (f : ScanFinding) :
    (s.applyFinding b n f).needle c m = if c = b ∧ m = n then f.record else s.needle c m := by
  rw [← State.needle_setNeedle]
  simp [State.needle, State.applyFinding]

theorem State.event_raiseIf (c : Bool) (e d : Sticky) (x : Option Detail) :
    (s.raiseIf c e x).event d = if c = true ∧ d = e then (s.event e).raise x else s.event d := by
  cases c <;> simp [State.raiseIf, State.event_raise]

theorem State.event_applyFinding (n : NeedleNo) (f : ScanFinding) (e : Sticky) : (s.applyFinding b n f).event e =
    if f.raises e then raised (s.event e) (.needle b n) else s.event e := by
  have unset : (s.setNeedle b n f.record).event = s.event := rfl
  unfold State.applyFinding
  cases e <;> simp [State.event_raiseIf, unset, ScanFinding.raises] <;> rfl

/-- Writing back one needle's finding leaves what is found in every other needle. -/
theorem State.finding_applyFinding_of_ne {n m : NeedleNo} (h : m ≠ n) (f : ScanFinding) :
    (s.applyFinding b n f).finding b channels m = s.finding b channels m := by
  simp [State.finding, State.needle_applyFinding, h]

/-- A finding for each needle of a list written back, one after the other. -/
def State.applyFindings (s : State) (b : Bar) (f : NeedleNo → ScanFinding) (ns : List NeedleNo) : State :=
  ns.foldl (fun t n => t.applyFinding b n (f n)) s

/-- Needles evaluated one after the other, each once, are found as they were before the evaluation (R116). -/
theorem evaluateNeedles_eq {f : NeedleNo → ScanFinding} {ns : List NeedleNo} (hns : ns.Nodup) (a : State × Bool)
    (hf : ∀ n ∈ ns, a.1.finding b channels n = f n) : ns.foldl (evaluateNeedle b channels) a =
      (a.1.applyFindings b f ns, a.2 || ns.any (fun n => (f n).broke)) := by
  induction ns generalizing a with
  | nil => simp [State.applyFindings]
  | cons n ns ih =>
    obtain ⟨fresh, hns⟩ := List.nodup_cons.mp hns
    have first : a.1.finding b channels n = f n := hf n List.mem_cons_self
    have later : ∀ m ∈ ns, (a.1.applyFinding b n (f n)).finding b channels m = f m := fun m hm =>
      (State.finding_applyFinding_of_ne (ne_of_mem_of_not_mem hm fresh) _).trans (hf m (List.mem_cons_of_mem _ hm))
    rw [List.foldl_cons, evaluateNeedle_eq, first, ih hns _ later, List.any_cons, Bool.or_assoc]
    rfl

theorem State.needle_applyFindings (f : NeedleNo → ScanFinding) (ns : List NeedleNo) (c : Bar) (m : NeedleNo) :
    (s.applyFindings b f ns).needle c m = if c = b ∧ m ∈ ns then (f m).record else s.needle c m := by
  induction ns generalizing s with
  | nil => simp [State.applyFindings]
  | cons n ns ih =>
    have rest : (s.applyFindings b f (n :: ns)) = (s.applyFinding b n (f n)).applyFindings b f ns := rfl
    rw [rest, ih, State.needle_applyFinding]
    by_cases hc : c = b
    · by_cases hm : m ∈ ns
      · simp [hc, hm]
      · by_cases hn : m = n <;> simp [hc, hm, hn]
    · simp [hc]

theorem State.event_applyFindings (f : NeedleNo → ScanFinding) (ns : List NeedleNo) (e : Sticky) :
    (s.applyFindings b f ns).event e =
      (ns.filter (fun n => (f n).raises e)).foldl (fun slot n => raised slot (.needle b n)) (s.event e) := by
  rw [List.foldl_filter]
  exact (List.foldl_hom (State.event · e) fun t n => (State.event_applyFinding n (f n) e).symm).symm

/-! ### The evaluation of a scan -/

/-- What the findings of a scan's expected set, written back, leave unchanged. -/
theorem State.applyFindings_frame (s : State) (b : Bar) (channels set : NeedleSet) :
    ∃ nd ev, s.applyFindings b (s.finding b channels) (members set) = { s with needles := nd, events := ev } := by
  obtain ⟨nd, ev, h⟩ := evaluateNeedle_frame b channels (members set) (s, false)
  rw [evaluateNeedles_eq (members_nodup set) _ fun _ _ => rfl] at h
  exact ⟨nd, ev, h⟩

/-- The evaluation of a scan: the findings of the expected set written back, and one BREAK notice if any broke
(R116, R120). -/
theorem State.evaluateScan_eq : s.evaluateScan b scan channels =
    let t := s.applyFindings b (s.finding b channels) (members scan.expected)
    if (members scan.expected).any (fun n => (s.finding b channels n).broke) then
      t.sendMonitorNotice b scan.panel .needleBreak
    else t := by
  unfold State.evaluateScan
  rw [evaluateNeedles_eq (members_nodup _) _ fun _ _ => rfl, Bool.false_or]

theorem State.evaluateScan_needles : (s.evaluateScan b scan channels).needles =
    (s.applyFindings b (s.finding b channels) (members scan.expected)).needles := by
  rw [State.evaluateScan_eq]
  dsimp only
  split <;> simp

theorem State.evaluateScan_events : (s.evaluateScan b scan channels).events =
    (s.applyFindings b (s.finding b channels) (members scan.expected)).events := by
  rw [State.evaluateScan_eq]
  dsimp only
  split <;> simp

/-- Each needle of the expected set is left with the record found, and no other needle is changed (R116). -/
theorem State.needle_evaluateScan (c : Bar) (n : NeedleNo) : (s.evaluateScan b scan channels).needle c n =
    if c = b ∧ scan.expected.getLsbD n.val = true then (s.finding b channels n).record else s.needle c n := by
  simp only [State.needle, State.evaluateScan_needles, ← mem_members]
  exact State.needle_applyFindings _ _ c n

/-- A needle of the expected set is left with the record found on its channel (R115, R116). -/
theorem State.needle_evaluateScan_of_taken {n : NeedleNo} {motion : Bool} (h : scan.expected.getLsbD n.val = true)
    (hm : channels.getLsbD (channelOf (s.params.skew.get b) n) = motion) :
    (s.evaluateScan b scan channels).needle b n = (scanNeedle s.params motion (s.needle b n)).record := by
  rw [State.needle_evaluateScan, if_pos ⟨rfl, h⟩, State.finding, hm]

/-- A needle outside the expected set, or of another bar, keeps its record (R116). -/
theorem State.needle_evaluateScan_of_not {c : Bar} {n : NeedleNo}
    (h : ¬ (c = b ∧ scan.expected.getLsbD n.val = true)) :
    (s.evaluateScan b scan channels).needle c n = s.needle c n := by
  rw [State.needle_evaluateScan, if_neg h]

/-- A source is raised once for each needle of the expected set whose finding raises it, in ascending order (R116). -/
theorem State.evaluateScan_raisedFor (e : Sticky) :
    (s.event e).RaisedFor ((s.evaluateScan b scan channels).event e) b
      (fun n => scan.expected.getLsbD n.val = true ∧ (s.finding b channels n).raises e = true) := by
  refine ⟨(members scan.expected).filter fun n => (s.finding b channels n).raises e,
    (members_ascending scan.expected).filter _, fun n => ?_, ?_⟩
  · rw [List.mem_filter, mem_members]
  · rw [State.event, State.evaluateScan_events]
    exact State.event_applyFindings _ _ e

/-- The condition under which needles raise a source may be put in other words. -/
theorem EventSlot.RaisedFor.congr {before after : EventSlot} {met met' : NeedleNo → Prop}
    (h : before.RaisedFor after b met) (iff : ∀ n, met n ↔ met' n) : before.RaisedFor after b met' := by
  obtain ⟨ns, ascending, mem, raises⟩ := h
  exact ⟨ns, ascending, fun n => (mem n).trans (iff n), raises⟩

theorem EventSlot.RaisedFor.eq_of_none {before after : EventSlot} {met : NeedleNo → Prop}
    (h : before.RaisedFor after b met) (none : ∀ n, ¬ met n) : after = before := by
  obtain ⟨ns, -, mem, raises⟩ := h
  obtain rfl : ns = [] := List.eq_nil_iff_forall_not_mem.mpr fun n hn => none n ((mem n).mp hn)
  exact raises

/-- When no needle of the expected set broke, nothing is sent (R120). -/
theorem State.evaluateScan_messages_of_quiet
    (h : ∀ n, scan.expected.getLsbD n.val = true → (s.finding b channels n).broke = false) :
    (s.evaluateScan b scan channels).messages = s.messages := by
  have quiet : (members scan.expected).any (fun n => (s.finding b channels n).broke) = false :=
    List.any_eq_false.mpr fun n hn => by simp [h n (mem_members.mp hn)]
  obtain ⟨nd, ev, frame⟩ := s.applyFindings_frame b channels scan.expected
  rw [State.evaluateScan_eq, quiet, frame]
  rfl

/-- When any needle of the expected set broke, one BREAK notice is sent, with Y as W stands (R120). -/
theorem State.evaluateScan_messages_of_broke {n : NeedleNo} {head : Word}
    (hn : scan.expected.getLsbD n.val = true) (hb : (s.finding b channels n).broke = true)
    (hp : scan.panel = some head) : (s.evaluateScan b scan channels).messages =
      s.messages ++ [.notice ⟨b, head, DefectKind.needleBreak.bit, s.yAt b head⟩] := by
  have broke : (members scan.expected).any (fun n => (s.finding b channels n).broke) = true :=
    List.any_eq_true.mpr ⟨n, mem_members.mpr hn, hb⟩
  obtain ⟨nd, ev, frame⟩ := s.applyFindings_frame b channels scan.expected
  rw [State.evaluateScan_eq, broke, frame, hp]
  rfl

/-- The evaluation of a scan writes needle records, events and messages, and nothing else. -/
theorem State.evaluateScan_frame (s : State) (b : Bar) (scan : Scan) (channels : NeedleSet) :
    ∃ nd ev ms, s.evaluateScan b scan channels = { s with needles := nd, events := ev, messages := ms } := by
  obtain ⟨nd, ev, frame⟩ := s.applyFindings_frame b channels scan.expected
  rw [State.evaluateScan_eq, frame]
  dsimp only
  split
  · cases scan.panel <;> exact ⟨_, _, _, rfl⟩
  · exact ⟨_, _, _, rfl⟩

/-! ### Scan data -/

theorem exec_scanDataArrival (h : s.inputs.operates = true) (b : Bar) (channels : NeedleSet) :
    exec (.scanDataArrival b channels) s = .next (s.takeScanData b channels) :=
  arrival_next h (fun s => s.takeScanData b channels)

/-- With no scan in flight the data is ignored: the chain comes to rest, if it was still clocked (R113, R133). -/
theorem State.takeScanData_of_none (h : (s.scans.get b).scan = none) :
    s.takeScanData b channels = s.setScan b .atRest := by
  simp [State.takeScanData, h]

theorem State.takeScanData_of_scanning (h : s.scans.get b = .scanning scan) :
    s.takeScanData b channels = (s.setScan b .atRest).evaluateScan b scan channels := by
  simp [State.takeScanData, h, SensorChain.scan]

/-- Settles O42: the needle clauses by the cases of `scanNeedle` in the record before the evaluation, the events and the
notice by the needles of the expected set whose findings call for them. -/
theorem scanEvaluated : Obligations.ScanEvaluated := by
  intro s b channels operates
  rw [exec_scanDataArrival operates]
  refine ⟨fun rests => ?_, fun abandoned => ?_, fun scan scanning => ?_⟩
  · rw [State.takeScanData_of_none (by rw [rests]; rfl), State.setScan, ← rests, PerBar.set_get]
  · rw [State.takeScanData_of_none (by rw [abandoned]; rfl)]
    rfl
  · intro p motion taken misses fails passes
    rw [State.takeScanData_of_scanning scanning]
    have broke (n : NeedleNo) : taken n ∧ (s.finding b channels n).broke = true ↔ misses n ∨ fails n := by
      simp [misses, fails, motion, State.finding, scanNeedle_broke_iff, channelOf, p, and_or_left]
    have retired (n : NeedleNo) : taken n ∧ (s.finding b channels n).retired = true ↔
        misses n ∧ p.breakLimit ≤ (s.needle b n).breaks + 1 := by
      simp [misses, motion, State.finding, scanNeedle_retired_iff, channelOf, p, and_assoc]
    have passed (n : NeedleNo) : taken n ∧ (s.finding b channels n).passed = true ↔ passes n := by
      simp [passes, motion, State.finding, scanNeedle_passed_iff, channelOf, p]
    have raisedFor (e : Sticky) := State.evaluateScan_raisedFor (s := s.setScan b .atRest) (b := b)
      (channels := channels) (scan := scan) e
    obtain ⟨nd, ev, ms, frame⟩ := (s.setScan b .atRest).evaluateScan_frame b scan channels
    refine ⟨_, rfl, by rw [frame]; rfl, by simp, by simp [State.scanOut], fun c n hc => ?_, ?_, fun none => ?_, ?_,
      (raisedFor .needleBroken).congr broke, (raisedFor .needleRetired).congr retired,
      (raisedFor .probationPassed).congr passed, fun e hb hr hp => (raisedFor e).eq_of_none fun n h => ?_⟩
    · exact State.needle_evaluateScan_of_not fun h => hc h.1
    · intro n q countdown
      have found {m : Bool} (h : taken n) (hm : channels.getLsbD (channelOf (p.skew.get b) n) = m) :=
        State.needle_evaluateScan_of_taken (s := s.setScan b .atRest) h hm
      have still (h : taken n) (stays : ¬ motion n) := found h (Bool.eq_false_iff.mpr stays)
      have breaks : misses n → _ = (breakNeedle p q).record := fun ⟨h, ready, stays, limit⟩ =>
        (still h stays).trans (congrArg ScanFinding.record (scanNeedle_ready_limit ready limit))
      refine ⟨fun quiet => ?_,
        fun h ready moves => (found h moves).trans (scanNeedle_ready_motion ready),
        fun h ready stays below => (still h stays).trans (scanNeedle_ready_below ready below),
        fun missed below => (breaks missed).trans (breakNeedle_below below),
        fun missed limit => (breaks missed).trans (breakNeedle_limit limit),
        fun h probation moves below => (found h moves).trans (scanNeedle_probation_below probation below),
        fun ⟨h, probation, moves, ends⟩ => (found h moves).trans (scanNeedle_probation_end probation ends),
        fun ⟨h, probation, stays⟩ => (still h stays).trans (scanNeedle_probation_still probation)⟩
      by_cases h : taken n
      · have unfit : ¬ q.Fit := quiet.resolve_left (not_not_intro h)
        exact (found h rfl).trans (congrArg ScanFinding.record (scanNeedle_of_not_fit unfit))
      · exact State.needle_evaluateScan_of_not fun both => h both.2
    · exact State.evaluateScan_messages_of_quiet fun n hn =>
        Bool.eq_false_iff.mpr fun hb => ((broke n).mp ⟨hn, hb⟩).elim (none n).1 (none n).2
    · intro n h hb hp
      obtain ⟨hn, hb⟩ := (broke n).mpr hb
      exact State.evaluateScan_messages_of_broke hn hb hp
    · rw [ScanFinding.raises_of_ne _ hb hr hp] at h
      exact absurd h.2 Bool.false_ne_true

end Sys2Proof.Machine
end

section
/-! PROOF. How a request reaches its owner: the owner sees the state with the port in the transaction, and the port alone
changes besides what the owner changes (R160, R163). Every request of the catalogue is carried out by the owner of its
kind. -/

namespace Sys2Proof.Machine

variable {s : State}

/-- Entering a transaction changes the port alone. -/
theorem State.enterTransaction_eq (s : State) : s.enterTransaction = { s with link := s.enterTransaction.link } := by
  unfold State.enterTransaction
  split <;> rfl

/-- A request whose owner answers alike whatever the port holds. -/
theorem request_of_answer (h : s.takesFrames) {kind tag : Byte} {owner : State → Answer} {u : State} {st : Status}
    {p : List Byte} (ho : ∀ l, owner { s with link := l } = ⟨{ u with link := l }, st, p⟩) :
    request kind tag owner s = .next { u with link := s.link.answered kind tag st p } := by
  have answer := ho s.enterTransaction.link
  rw [← State.enterTransaction_eq] at answer
  exact request_next (u := { u with link := s.enterTransaction.link }) h answer rfl

/-- A request whose owner changes nothing: a report or a refusal. -/
theorem request_of_report (h : s.takesFrames) {kind tag : Byte} {owner : State → Answer} {st : Status} {p : List Byte}
    (ho : ∀ l, owner { s with link := l } = ⟨{ s with link := l }, st, p⟩) :
    request kind tag owner s = .next (s.answered kind tag st p) :=
  request_of_answer h ho

/-- A request that its owner refuses. -/
theorem request_of_refusal (h : s.takesFrames) {kind tag : Byte} {owner : State → Answer} {st : Status}
    (ho : ∀ l, owner { s with link := l } = refuse { s with link := l } st) :
    request kind tag owner s = .next (s.answered kind tag st []) :=
  request_of_report h ho

/-! ### The owner of each kind -/

theorem byte_fieldByte_cons (b : Byte) (rest : List Byte) : byte (fieldByte (b :: rest) 0) = b := by
  simp [fieldByte_cons, byte]

theorem ptinfo_zero (s : State) : ptinfo [0] s = pageMap s := rfl

theorem pninfo_zero (s : State) : pninfo [0, 0] s = tableReport s := by
  unfold pninfo
  simp [field, numberOf]

theorem cfread_zero (s : State) : cfread [0] s = readAllParams s := by
  unfold cfread
  simp [fieldByte_cons]

theorem ndinfo_whole (bar : Byte) (s : State) : ndinfo [bar, 0xFF] s = ndinfoWholeBar bar s := by
  have named : ([bar, 0xFF] : List Byte).length = 2 ∧ fieldByte [bar, 0xFF] 1 = 0xFF := ⟨rfl, rfl⟩
  rw [ndinfo, if_pos named, byte_fieldByte_cons]

/-- A request is carried out by the owner of its frame's kind (R163). -/
theorem exec_of_frame {c : Instr} {kind tag : Byte} {payload : List Byte} (h : frameOf c = some (kind, tag, payload))
    (s : State) : exec c s = request kind tag (ownerAnswer kind payload) s := by
  cases c <;> cases h
  case pninfoTable => exact congrArg (request 0x22 _ · s) (funext fun u => (pninfo_zero u).symm)
  case ndinfoBar bar => exact congrArg (request 0x44 _ · s) (funext fun u => (ndinfo_whole bar u).symm)
  case cfreadAll => exact congrArg (request 0x51 _ · s) (funext fun u => (cfread_zero u).symm)
  all_goals rfl

/-- A kind outside the catalogue has no owner (R163). -/
theorem ownerAnswer_unknown {kind : Byte} (h : kind.toNat ∉ catalogue) (payload : List Byte) (s : State) :
    ownerAnswer kind payload s = refuse s .unknown := by
  unfold ownerAnswer
  split <;> simp_all [catalogue]

theorem valueBytes_valueOf (a b c d : Byte) : valueBytes (valueOf a b c d) = [a, b, c, d] := by
  have joined : valueOf a b c d = (((a ++ b) ++ c) ++ d : BitVec (8 + 8 + 8 + 8)) := rfl
  rw [valueBytes, joined]
  simp only [List.cons.injEq, and_true]
  refine ⟨?_, ?_, ?_, ?_⟩ <;> ext i hi <;> simp [BitVec.getElem_append, BitVec.getLsbD_append] <;> grind

theorem frameOf_ndinfoCommand (tag : Byte) (payload : List Byte) :
    frameOf (ndinfoCommand tag payload) = some (0x44, tag, payload) := by
  unfold ndinfoCommand
  split
  · split
    · subst_vars
      rfl
    · rfl
  · rfl

theorem frameOf_cfwriteCommand (tag : Byte) (payload : List Byte) :
    frameOf (cfwriteCommand tag payload) = some (0x50, tag, payload) := by
  unfold cfwriteCommand
  split
  · split_ifs <;> simp_all [frameOf, valueBytes_valueOf]
  · rfl

/-- The command that a frame stands for is carried by that frame. -/
theorem frameOf_commandOf (kind tag : Byte) (payload : List Byte) :
    frameOf (commandOf kind tag payload) = some (kind, tag, payload) := by
  have kindIs {n : Nat} (h : kind.toNat = n) : kind = BitVec.ofNat 8 n := by
    rw [← h, BitVec.ofNat_toNat, BitVec.setWidth_eq]
  unfold commandOf
  split
  case h_33 => rfl
  all_goals
    rename_i h
    rw [kindIs h]
  case h_7 | h_13 | h_26 => split <;> simp_all [frameOf]
  case h_24 => exact frameOf_ndinfoCommand tag payload
  case h_25 => exact frameOf_cfwriteCommand tag payload
  all_goals rfl

/-- The command that a frame stands for carries out the request of the frame (R163). -/
theorem exec_commandOf (kind tag : Byte) (payload : List Byte) (s : State) :
    exec (commandOf kind tag payload) s = request kind tag (ownerAnswer kind payload) s :=
  exec_of_frame (frameOf_commandOf kind tag payload) s

end Sys2Proof.Machine
end

section
/-! PROOF. What a step can do: one case for each way in which a command changes the registers, tables, records and
counts of the part. Every invariant is proved over these cases. -/

namespace Sys2Proof.Machine

/-! ### What the owner of a request leaves -/

/-- What the owner of a request can make of the state: one case for each request that writes. -/
inductive State.Owned (s : State) : State → Prop
  | kept : s.Owned s
  | members (n : SetNo) (set : NeedleSet) (hn : n ≠ 0) :
    s.Owned (s.setStore { s.store with sets := s.store.sets.set n ⟨set, s.store.sets[n].refCount⟩ })
  | opened (p : PatternId) (page : PageNo) (hp : s.store.patterns[p].state = .empty)
    (hg : s.store.owner[page] = none) :
    s.Owned (s.setStore ((s.store.setPattern p
      { s.store.patterns[p] with state := .opened, home := some page }).setOwner page (some p)))
  | written (p : PatternId) (page : PageNo) (first : EntryNo) (es : List SegEntry)
    (hp : s.store.patterns[p].state = .opened) (hg : s.store.owner[page] = none ∨ s.store.owner[page] = some p)
    (he : ∀ e ∈ es, e.wf = true) :
    s.Owned (s.setStore ((s.store.setOwner page (some p)).writeRun page first es))
  | closed (p : PatternId) (home : PageNo) (endless : Bool) (path : List Place2)
    (hp : s.store.patterns[p].state = .opened) (hh : s.store.patterns[p].home = some home)
    (hw : s.store.closingWalk p home = .closed endless path) :
    s.Owned (s.setStore ((s.store.setPattern p
      { s.store.patterns[p] with state := .closed, endless := endless }).countPath (· + 1) path))
  | reopened (p : PatternId) (hp : s.store.patterns[p].state = .closed) (hu : s.store.patterns[p].useCount = 0) :
    s.Owned (s.setStore ((s.store.takeBack p).setPattern p
      { s.store.patterns[p] with state := .opened, endless := false }))
  | deleted (p : PatternId) (hp : s.store.patterns[p].state ≠ .empty) (hu : s.store.patterns[p].useCount = 0) :
    s.Owned (s.setStore (((if s.store.patterns[p].state = .closed then s.store.takeBack p else s.store).freePages
      p).setPattern p .blank))
  | admitted (a : Admission) (room : s.table.records.length < 16) (tag : s.findTag a.tag = none)
    (range : a.inRange = true) (usable : ∀ b, s.patternUsable (a.bars.get b) = true)
    (ahead : 0 ≤ webDist (s.admittedHead a) s.w) (near : webDist (s.admittedHead a) s.w < 16777216)
    (order : s.overlapsNewest (s.admittedHead a) = false) : s.Owned (s.addPanel (a.record (s.admittedHead a)))
  | removed (r : PanelRecord) (found : s.findTag r.tag.toNat = some r) (hp : r.cutPending = false) :
    s.Owned (s.removeRecord r)
  | aborted (r : PanelRecord) : s.Owned (s.markAborted r)
  | staged (b : Bar) (c : Control) (transfer : c.transfer = (s.bars.get b).control.transfer) :
    s.Owned (s.setControl b c)
  | rearmed (b : Bar) (n : NeedleNo) (h : (s.needle b n).state = .broken ∨ (s.needle b n).state = .probation) :
    s.Owned (s.setNeedle b n
      { s.needle b n with state := .probation, progress := 0, retries := s.params.retries, countdown := none })
  | restored (b : Bar) (n : NeedleNo) : s.Owned (s.setNeedle b n { s.needle b n with
      state := if 0 < (s.needle b n).thread then .ready else .threadOut
      breaks := 0
      misses := 0
      progress := 0
      retries := 0
      countdown := none })
  | retired (b : Bar) (n : NeedleNo) : s.Owned (s.setNeedle b n
      { s.needle b n with state := .retired, countdown := none, misses := 0, progress := 0 })
  | loaded (b : Bar) (n : NeedleNo) (len : Nat) (h : 1 ≤ len ∧ len ≤ 2000000000) :
    s.Owned (s.setNeedle b n ((s.needle b n).load len))
  | loadedAll (b : Bar) (len : Nat) (h : 1 ≤ len ∧ len ≤ 2000000000) :
    s.Owned (s.mapNeedles b (NeedleRecord.load len))
  | written_param (id : ParamId) (v : Int) (h : s.valueAllowed id v = true) : s.Owned (s.writeParam id v)
  | acknowledged (named : SourceSet) : s.Owned (s.acknowledge named)
  | masked (masks : Vector SourceSet 4) : s.Owned { s with masks := masks }
  | cleared : s.Owned s.lineClear

variable {s : State}

theorem nswrite_owned (p : List Byte) : s.Owned (nswrite p s).state := by
  unfold nswrite
  dsimp only
  split
  · exact .kept
  split
  · exact .kept
  split_ifs with h1 h2
  · exact .kept
  · exact .kept
  · exact .members _ _ fun h => h1 (.inl h)

theorem ptopen_owned (p : List Byte) : s.Owned (ptopen p s).state := by
  unfold ptopen
  split
  · exact .kept
  split
  · split_ifs with h1 h2
    · exact .kept
    · exact .kept
    · exact .opened _ _ (not_not.mp h1) (not_not.mp h2)
  · exact .kept

/-- The entries that a run of bytes spells are well formed (R23, R25). -/
theorem readEntries_wf {chunks : List (List Byte)} {i : Nat} {es : List SegEntry} (h : readEntries chunks i = .ok es) :
    ∀ e ∈ es, e.wf = true := by
  induction chunks generalizing i es with
  | nil =>
    cases h
    simp
  | cons bytes rest ih =>
    unfold readEntries at h
    split at h
    · cases h
    · rename_i e he
      split at h
      · rename_i es' hes
        cases h
        have wf : e.wf = true := by
          unfold SegEntry.of? at he
          split at he
          · split_ifs at he with hw
            cases he
            simp_all
          · cases he
        simpa [wf] using ih hes
      · cases h

theorem ptwrite_owned (p : List Byte) : s.Owned (ptwrite p s).state := by
  unfold ptwrite
  dsimp only
  split
  · exact .kept
  split
  · split_ifs with h1 h2 h3
    · exact .kept
    · exact .kept
    · exact .kept
    split
    · exact .kept
    · rename_i es hes
      refine .written _ _ _ _ (not_not.mp h2) ?_ (readEntries_wf hes)
      rwa [not_and_or, not_not, not_not] at h3
  · exact .kept

theorem ptclose_owned (p : List Byte) : s.Owned (ptclose p s).state := by
  unfold ptclose
  split
  · exact .kept
  split
  · exact .kept
  split
  · split
    · exact .kept
    · exact .closed _ _ _ _ ‹_› ‹_› ‹_›
  · exact .kept

theorem ptreopen_owned (p : List Byte) : s.Owned (ptreopen p s).state := by
  unfold ptreopen
  split
  · exact .kept
  split
  · exact .kept
  split_ifs with h1 h2
  · exact .kept
  · exact .kept
  · exact .reopened _ (not_not.mp h1) (Nat.eq_zero_of_not_pos h2)

theorem ptdelete_owned (p : List Byte) : s.Owned (ptdelete p s).state := by
  unfold ptdelete
  dsimp only
  split
  · exact .kept
  split
  · exact .kept
  split
  · exact .kept
  · rename_i h
    split
    · exact .kept
    · exact .deleted _ h (Nat.eq_zero_of_not_pos ‹_›)

theorem pnadmit_owned (p : List Byte) : s.Owned (pnadmit p s).state := by
  unfold pnadmit
  dsimp only
  split_ifs with h1 h2 h3 h4 h5 h6 h7 h8
  case neg =>
    refine .admitted _ (Nat.lt_of_not_le h2) ?_ ?_ ?_ (Int.not_lt.mp h6) (Int.not_le.mp h7) ?_
    · simpa using h3
    · simpa using h4
    · simp only [Bool.not_eq_true', Bool.not_eq_false, Bool.and_eq_true] at h5
      obtain ⟨⟨ha, hb⟩, hc⟩ := h5
      exact fun | .A => ha | .B => hb | .C => hc
    · simpa using h8
  all_goals exact .kept

theorem State.findTag_some {tag : Nat} {r : PanelRecord} (h : s.findTag tag = some r) :
    r ∈ s.table.records ∧ r.tag.toNat = tag :=
  ⟨List.mem_of_find?_eq_some h, by simpa using List.find?_some h⟩

theorem pnabort_owned (p : List Byte) : s.Owned (pnabort p s).state := by
  unfold pnabort
  split_ifs with h1 h2
  · exact .kept
  · exact .kept
  split
  · exact .kept
  · rename_i r hr
    dsimp only
    split_ifs with h3 h4
    · refine .removed r ?_ ?_
      · rw [(State.findTag_some hr).2, hr]
      · simp only [Bool.and_eq_true, Bool.not_eq_true'] at h3
        exact h3.2
    · exact .aborted r
    · exact .kept

theorem barRequest_owned {p : List Byte} {f : Bar → Answer} (hf : ∀ b, s.Owned (f b).state) :
    s.Owned (barRequest p s f).state := by
  unfold barRequest
  split
  · exact .kept
  split
  · exact hf _
  · exact .kept

theorem brun_owned (p : List Byte) : s.Owned (brun p s).state := by
  refine barRequest_owned fun b => ?_
  split
  · exact .kept
  · exact .staged b _ rfl

theorem bstop_owned (p : List Byte) : s.Owned (bstop p s).state :=
  barRequest_owned fun b => .staged b _ rfl

theorem boverride_owned (p : List Byte) : s.Owned (boverride p s).state := by
  unfold boverride
  dsimp only
  split
  · exact .kept
  split
  · exact .kept
  split
  · exact .kept
  · exact .staged _ _ rfl

theorem brehearse_owned (p : List Byte) : s.Owned (brehearse p s).state := by
  unfold brehearse
  split
  · exact .kept
  split
  · exact .kept
  split
  · exact .kept
  · exact .staged _ _ rfl

theorem needleRequest_owned {p : List Byte} {f : Bar → NeedleNo → Answer} (hf : ∀ b n, s.Owned (f b n).state) :
    s.Owned (needleRequest p s f).state := by
  unfold needleRequest
  split
  · exact .kept
  split
  · exact hf _ _
  · exact .kept

theorem ndrearm_owned (p : List Byte) : s.Owned (ndrearm p s).state := by
  refine needleRequest_owned fun b n => ?_
  dsimp only
  split
  · exact .rearmed b n ‹_›
  · exact .kept

theorem ndrestore_owned (p : List Byte) : s.Owned (ndrestore p s).state := by
  refine needleRequest_owned fun b n => ?_
  dsimp only
  split
  · exact .restored b n
  · exact .kept

theorem State.setNeedle_needle (s : State) (b : Bar) (n : NeedleNo) : s.setNeedle b n (s.needle b n) = s := by
  simp [State.setNeedle, State.needle]

theorem ndretire_owned (p : List Byte) : s.Owned (ndretire p s).state := by
  refine needleRequest_owned fun b n => ?_
  dsimp only
  split
  · simp only [acceptNeedle, accept, State.setNeedle_needle]
    exact .kept
  · exact .retired b n

theorem ndload_owned (p : List Byte) : s.Owned (ndload p s).state := by
  unfold ndload
  dsimp only
  split
  · exact .kept
  split
  · exact .kept
  split_ifs with h1 h2
  · exact .kept
  · exact .loadedAll _ _ (by omega)
  split
  · exact .loaded _ _ _ (by omega)
  · exact .kept

theorem ndinfo_owned (p : List Byte) : s.Owned (ndinfo p s).state := by
  unfold ndinfo ndinfoWholeBar
  split
  · split <;> exact .kept
  · exact needleRequest_owned fun _ _ => .kept

theorem cfwrite_owned (p : List Byte) : s.Owned (cfwrite p s).state := by
  unfold cfwrite
  dsimp only
  split
  · exact .kept
  split
  · exact .kept
  split_ifs with h1 h2
  · exact .kept
  · exact .kept
  · exact .written_param _ _ (by simpa using h2)

theorem evack_owned (p : List Byte) : s.Owned (evack p s).state := by
  unfold evack
  dsimp only
  split_ifs
  · exact .kept
  · exact .kept
  · exact .acknowledged _

theorem maskRequest_owned (f : SourceSet → SourceSet → SourceSet) (p : List Byte) :
    s.Owned (maskRequest f p s).state := by
  unfold maskRequest
  dsimp only
  split_ifs
  · exact .kept
  · exact .kept
  · exact .masked _
  · exact .kept

theorem lineclear_owned (p : List Byte) : s.Owned (lineclear p s).state := by
  unfold lineclear
  split
  · exact .kept
  · exact .cleared

/-- The reports change nothing. -/
theorem reports_kept (p : List Byte) (s : State) : (nop p s).state = s ∧ (ptinfo p s).state = s ∧ (ptread p s).state = s
    ∧ (nsinfo p s).state = s ∧ (pninfo p s).state = s ∧ (pnlast p s).state = s ∧ (binfo p s).state = s
    ∧ (cfread p s).state = s ∧ (evread p s).state = s ∧ (posread p s).state = s := by
  refine ⟨?_, ?_, ?_, ?_, ?_, ?_, ?_, ?_, ?_, ?_⟩
  · unfold nop; split <;> rfl
  · unfold ptinfo; repeat' split
    all_goals rfl
  · unfold ptread; dsimp only; repeat' split
    all_goals rfl
  · unfold nsinfo; repeat' split
    all_goals rfl
  · unfold pninfo; repeat' split
    all_goals rfl
  · unfold pnlast; split <;> rfl
  · unfold binfo barRequest; repeat' split
    all_goals rfl
  · unfold cfread; repeat' split
    all_goals rfl
  · unfold evread; split <;> rfl
  · unfold posread; split <;> rfl

/-- The owner of a request, whatever its kind, does one of the changes named (R163). -/
theorem ownerAnswer_owned (kind : Byte) (p : List Byte) (s : State) : s.Owned (ownerAnswer kind p s).state := by
  obtain ⟨h00, h15, h16, h19, h22, h23, h34, h51, h52, h56⟩ := reports_kept p s
  have kept {t : State} (h : t = s) : s.Owned t := h ▸ .kept
  unfold ownerAnswer
  split
  · exact kept h00
  · exact ptopen_owned p
  · exact ptwrite_owned p
  · exact ptclose_owned p
  · exact ptreopen_owned p
  · exact ptdelete_owned p
  · exact kept h15
  · exact kept h16
  · exact nswrite_owned p
  · exact kept h19
  · exact pnadmit_owned p
  · exact pnabort_owned p
  · exact kept h22
  · exact kept h23
  · exact brun_owned p
  · exact bstop_owned p
  · exact boverride_owned p
  · exact brehearse_owned p
  · exact kept h34
  · exact ndrearm_owned p
  · exact ndrestore_owned p
  · exact ndretire_owned p
  · exact ndload_owned p
  · exact ndinfo_owned p
  · exact cfwrite_owned p
  · exact kept h51
  · exact kept h52
  · exact evack_owned p
  · exact maskRequest_owned _ p
  · exact maskRequest_owned _ p
  · exact kept h56
  · exact lineclear_owned p
  · exact .kept

/-! ### What a command does -/

/-- Two states that agree in everything the invariants speak of: they may differ in the queue, the input levels, the
scans, the masks, the port, the messages in flight and the strokes not yet taken. -/
structure State.Alike (s t : State) : Prop where
  w : t.w = s.w
  params : t.params = s.params
  store : t.store = s.store
  table : t.table = s.table
  cutter : t.cutter = s.cutter
  bars : t.bars = s.bars
  needles : t.needles = s.needles
  events : t.events = s.events

theorem State.Alike.refl (s : State) : s.Alike s := ⟨rfl, rfl, rfl, rfl, rfl, rfl, rfl, rfl⟩

theorem State.Alike.symm {s t : State} (h : s.Alike t) : t.Alike s :=
  ⟨h.w.symm, h.params.symm, h.store.symm, h.table.symm, h.cutter.symm, h.bars.symm, h.needles.symm, h.events.symm⟩

/-- What a command can do to the state, up to what `State.Alike` leaves open. -/
inductive State.Effect (s : State) : State → Prop
  | started (cause : RestartCause) : s.Effect (s.startOperation cause)
  | dropped : s.Effect s.dropOperations
  | miscounted : s.Effect ((s.raise .encoderFault none).latchAll .encoder)
  | moved (w : Word) (h : w = s.w + 1 ∨ w = s.w - 1) : s.Effect (s.setW w).wArrival
  | acknowledged : s.Effect s.acknowledgeCut
  | stroked (b : Bar) : s.Effect ((s.flush b).evaluateStroke b)
  | echoed (b : Bar) (echo : NeedleSet) : s.Effect (s.takeEcho b echo)
  | delivered (m : Message) : s.Effect (s.deliver m)
  | scanned (b : Bar) (channels : NeedleSet) : s.Effect (s.takeScanData b channels)
  | frameFailed (e : LinkError) : s.Effect (s.raise .linkErr (some (.linkError e)))
  | frameStopped (e : LinkError) : s.Effect ((s.raise .linkErr (some (.linkError e))).latchAll .link)
  | answered {t : State} (h : s.Owned t) : s.Effect t

/-- A state that a command can leave: an effect on a state like the one before, up to what `State.Alike` leaves
open. -/
def State.Becomes (s t : State) : Prop := ∃ u v, s.Alike u ∧ u.Effect v ∧ v.Alike t

theorem State.Becomes.of_alike {t : State} (h : s.Alike t) : s.Becomes t :=
  ⟨s, s, .refl s, .answered .kept, h⟩

theorem State.Becomes.of_effect {t : State} (h : s.Effect t) : s.Becomes t := ⟨s, t, .refl s, h, .refl t⟩

theorem request_becomes {kind tag : Byte} {p : List Byte} {t : State}
    (h : request kind tag (ownerAnswer kind p) s = .next t) : s.Becomes t := by
  unfold request at h
  dsimp only at h
  split at h
  · cases h
    refine ⟨s.enterTransaction, _, ?_, .answered (ownerAnswer_owned kind p _), ⟨rfl, rfl, rfl, rfl, rfl, rfl, rfl, rfl⟩⟩
    constructor <;> simp
  · cases h
    exact .of_alike ⟨rfl, rfl, rfl, rfl, rfl, rfl, rfl, rfl⟩

theorem arrival_becomes {f : State → State} {t : State} (h : arrival s f = .next t) (hf : s.Becomes (f s)) :
    s.Becomes t := by
  unfold arrival at h
  cases h
  split
  · exact hf
  · exact .of_alike (.refl s)

theorem State.countArrival_becomes (x y : Bool) : s.Becomes (s.countArrival x y) := by
  unfold State.countArrival
  have paired : s.Alike (s.setPair x y) := ⟨rfl, rfl, rfl, rfl, rfl, rfl, rfl, rfl⟩
  unfold State.takePair
  cases hc : s.countStep x y
  · exact .of_alike (.refl s)
  · exact ⟨s.setPair x y, _, paired, .moved (s.w + 1) (.inl rfl), .refl _⟩
  · exact ⟨s.setPair x y, _, paired, .moved (s.w - 1) (.inr rfl), .refl _⟩
  · exact ⟨s.setPair x y, _, paired, .miscounted, .refl _⟩

theorem State.strokeEvent_becomes (b : Bar) : s.Becomes (s.strokeEvent b) := by
  have edge : s.Alike (if s.strokesDue.get b = 0 then s.strokeEdge else s) := by
    split
    · constructor <;> simp
    · exact .refl s
  unfold State.strokeEvent
  dsimp only
  generalize (if s.strokesDue.get b = 0 then s.strokeEdge else s) = u at edge
  split
  · exact .of_alike edge
  · refine ⟨{ u with strokesDue := u.strokesDue.set b (u.strokesDue.get b - 1) }, _, ?_, .stroked b, .refl _⟩
    exact ⟨edge.w, edge.params, edge.store, edge.table, edge.cutter, edge.bars, edge.needles, edge.events⟩

theorem State.frameErrorTaken_becomes (e : LinkError) : s.Becomes (s.frameErrorTaken e) := by
  have entered : s.Alike ((s.enterTransaction.respond .frameError).endTransaction) := by constructor <;> simp
  unfold State.frameErrorTaken
  dsimp only
  split
  · exact ⟨_, _, entered, .frameStopped e, .refl _⟩
  · exact ⟨_, _, entered, .frameFailed e, .refl _⟩

theorem State.transactionEnd_becomes (bytes : List Byte) : s.Becomes (s.transactionEnd bytes) := by
  unfold State.transactionEnd
  split
  · exact .of_alike (by constructor <;> simp)
  · exact State.frameErrorTaken_becomes _
  · exact State.frameErrorTaken_becomes _
  · exact State.frameErrorTaken_becomes _
  · exact ⟨s.enterTransaction, _, by constructor <;> simp, .answered (ownerAnswer_owned _ _ _),
      ⟨rfl, rfl, rfl, rfl, rfl, rfl, rfl, rfl⟩⟩

theorem execFrameError_becomes {bits : List Bool} {t : State} (h : execFrameError bits s = .next t) :
    s.Becomes t := by
  unfold execFrameError at h
  cases h
  split
  · exact State.transactionEnd_becomes _
  · exact .of_alike ⟨rfl, rfl, rfl, rfl, rfl, rfl, rfl, rfl⟩

/-- A message taken out of those in flight and delivered. -/
theorem State.deliver_becomes {u : State} (h : s.Alike u) (m : Message) : s.Becomes (u.deliver m) :=
  ⟨u, _, h, .delivered m, .refl _⟩

/-- What a command does is one of the effects named. -/
theorem exec_becomes {c : Instr} {t : State} (h : exec c s = .next t) : s.Becomes t := by
  have quiet {i : Inputs} : s.Alike { s with inputs := i } := ⟨rfl, rfl, rfl, rfl, rfl, rfl, rfl, rfl⟩
  have linked {l : LinkPort} : s.Alike { s with link := l } := ⟨rfl, rfl, rfl, rfl, rfl, rfl, rfl, rfl⟩
  have unsent (m : Message) : s.Alike (s.removeMessage m) := ⟨rfl, rfl, rfl, rfl, rfl, rfl, rfl, rfl⟩
  cases c
  case powerOn =>
    cases h
    exact .of_effect (.started .power)
  case resetNLow =>
    cases h
    split
    · exact .of_effect .dropped
    · exact .of_alike quiet
  case pinReset =>
    cases h
    split
    · exact .of_effect (.started .pin)
    · exact .of_alike quiet
  case countArrival x y =>
    cases h
    split
    · exact State.countArrival_becomes x y
    · exact .of_alike quiet
  case cutWindowExpiry x y =>
    refine arrival_becomes (f := fun s => if s.expiresAt x y then s.countArrival x y else s) h ?_
    split
    · exact State.countArrival_becomes x y
    · exact .of_alike (.refl s)
  case cutDone =>
    cases h
    split
    · exact ⟨s.setCutDone true, _, quiet, .acknowledged, .refl _⟩
    · exact .of_alike quiet
  case freeze =>
    cases h
    exact .of_alike quiet
  case driveFault =>
    cases h
    exact .of_alike quiet
  case strokeEvent b =>
    cases h
    split
    · exact State.strokeEvent_becomes b
    · exact .of_alike quiet
  case selectEcho b echo =>
    refine arrival_becomes (f := (·.takeEcho b echo)) h ?_
    exact .of_effect (.echoed b echo)
  case barStatusMessage m =>
    refine arrival_becomes (f := fun s => (s.removeMessage (.status m)).takeStatus m) h ?_
    exact State.deliver_becomes (unsent _) (.status m)
  case defectNotice n =>
    refine arrival_becomes (f := fun s => (s.removeMessage (.notice n)).takeNotice n) h ?_
    exact State.deliver_becomes (unsent _) (.notice n)
  case consumptionNotice n =>
    refine arrival_becomes (f := fun s => (s.removeMessage (.consumption n)).takeConsumption n) h ?_
    exact State.deliver_becomes (unsent _) (.consumption n)
  case scanRequest r =>
    refine arrival_becomes (f := fun s => (s.removeMessage (.scan r)).takeScanRequest r) h ?_
    exact State.deliver_becomes (unsent _) (.scan r)
  case retryCountdownExpiry n r =>
    refine arrival_becomes h ?_
    split
    · exact State.deliver_becomes (unsent _) (.scan r)
    · exact .of_alike (.refl s)
  case scanDataArrival b channels =>
    refine arrival_becomes (f := (·.takeScanData b channels)) h ?_
    exact .of_effect (.scanned b channels)
  case linkTransactionStart =>
    cases h
    split
    · exact .of_alike linked
    · exact .of_alike linked
  case frameError bits => exact execFrameError_becomes h
  case strokeFall =>
    cases h
    exact .of_alike quiet
  case cutDoneFall =>
    cases h
    exact .of_alike quiet
  all_goals exact request_becomes ((exec_of_frame rfl s).symm.trans h)

/-- What a step does is one of the effects named: a command is carried out, or a message in flight is taken. -/
theorem step_becomes {t : State} (h : step s = .next t) : s.Becomes t := by
  unfold step at h
  split at h
  · obtain ⟨u, v, ⟨h1, h2, h3, h4, h5, h6, h7, h8⟩, effect, after⟩ := exec_becomes h
    exact ⟨u, v, ⟨h1, h2, h3, h4, h5, h6, h7, h8⟩, effect, after⟩
  · cases h
    unfold State.idle
    split
    · refine State.deliver_becomes ?_ _
      exact ⟨rfl, rfl, rfl, rfl, rfl, rfl, rfl, rfl⟩
    · exact .of_alike (.refl s)

end Sys2Proof.Machine
end

section
/-! PROOF. What a panel record keeps for good: the tag, the head, the length and the references that admission fixed (R38).
Folds, statuses, marks and the pending cut leave it, and a record leaves the table by a retirement, an abort or LINECLEAR
alone. -/

namespace Sys2Proof.Machine

variable {s : State}

/-- What a record keeps from its admission on: its tag, head and length, and the pattern and width set of each bar. -/
def PanelRecord.plan (r : PanelRecord) : BitVec 16 × Word × Nat × PerBar (Option PatternId × Option SetNo) :=
  (r.tag, r.head, r.length, r.bars.map (fun b => (b.pattern, b.widthSet)))

/-- The plans of the live records, oldest first. -/
def State.plans (s : State) : List (BitVec 16 × Word × Nat × PerBar (Option PatternId × Option SetNo)) :=
  s.table.records.map PanelRecord.plan

theorem PanelRecord.plan_setStatus (r : PanelRecord) (b : Bar) (status : BarStatus) :
    (r.setStatus b status).plan = r.plan := by
  cases b <;> rfl

theorem PanelRecord.plan_fold (r : PanelRecord) (bar : Option Bar) (kinds : DefectSet) (y : Int) :
    (r.fold bar kinds y).plan = r.plan := by
  rcases bar with - | b
  · rfl
  · cases b <;> rfl

theorem State.plans_updateRecord {f : PanelRecord → PanelRecord} (hf : ∀ r, (f r).plan = r.plan) (head : Word) :
    (s.updateRecord head f).plans = s.plans :=
  map_updateHead PanelRecord.plan hf s.table.records

theorem State.plans_of_table {t : State} (h : t.table = s.table) : t.plans = s.plans := by
  rw [State.plans, h, State.plans]

theorem State.plans_raiseIf (c : Bool) (e : Sticky) (d : Option Detail) : (s.raiseIf c e d).plans = s.plans :=
  State.plans_of_table (by simp)

@[simp] theorem State.plans_fold (head : Word) (bar : Option Bar) (kinds : DefectSet) (y : Int) :
    (s.fold head bar kinds y).plans = s.plans := by
  unfold State.fold
  split
  · rfl
  · exact (State.plans_raiseIf _ _ _).trans (State.plans_updateRecord (fun r => r.plan_fold _ _ _) head)

@[simp] theorem State.plans_settle (head : Word) (b : Bar) : (s.settle head b).plans = s.plans := by
  unfold State.settle
  dsimp only
  split
  · rfl
  · split
    · exact (State.plans_fold _ _ _ _).trans (State.plans_updateRecord (fun r => r.plan_setStatus _ _) head)
    · exact (State.plans_fold _ _ _ _).trans (State.plans_updateRecord (fun r => r.plan_setStatus _ _) head)
    · rfl

@[simp] theorem State.plans_takeStatus (m : StatusMessage) : (s.takeStatus m).plans = s.plans := by
  refine State.plans_updateRecord (fun r => ?_) m.head
  split
  · rfl
  · exact r.plan_setStatus _ _

@[simp] theorem State.plans_takeNotice (n : DefectNotice) : (s.takeNotice n).plans = s.plans := by
  unfold State.takeNotice
  split
  · rfl
  · dsimp only
    split
    · exact State.plans_fold n.head (some n.bar) n.kinds n.y
    · exact State.plans_fold _ _ _ _

/-- No message changes what admission fixed. -/
@[simp] theorem State.plans_deliver (m : Message) : (s.deliver m).plans = s.plans := by
  cases m with
  | status m => exact State.plans_takeStatus m
  | notice n => exact State.plans_takeNotice n
  | consumption n => exact State.plans_of_table (by simp [State.deliver])
  | scan r => exact State.plans_of_table (by simp [State.deliver])

@[simp] theorem State.plans_flush (b : Bar) : (s.flush b).plans = s.plans :=
  State.flush_keeps State.plans (fun _ m _ => State.plans_deliver m) (fun _ _ _ => rfl)

@[simp] theorem State.plans_markAborted (r : PanelRecord) : (s.markAborted r).plans = s.plans :=
  (State.plans_fold _ _ _ _).trans (State.plans_updateRecord (f := fun q => { q with aborted := true }) (fun _ => rfl) r.head)

@[simp] theorem State.plans_makePending (n : CutterState) : (s.makePending n).plans = s.plans := by
  unfold State.makePending
  split
  · rfl
  · rename_i r rest h
    simp only [Bar.all, List.foldl_cons, List.foldl_nil, State.plans_settle]
    simp [State.plans, h, PanelRecord.plan]

/-- What the release message reads of a record is in its plan (R35). -/
theorem Store.releaseRecord_of_plan (st : Store) {r q : PanelRecord} (h : r.plan = q.plan) :
    st.releaseRecord r = st.releaseRecord q := by
  simp only [PanelRecord.plan, PerBar.map, Prod.mk.injEq, PerBar.mk.injEq] at h
  obtain ⟨-, -, -, ⟨a, a'⟩, ⟨b, b'⟩, c, c'⟩ := h
  simp [Store.releaseRecord, Bar.all, Store.changeBar, PerBar.get, a, a', b, b', c, c']

/-- A change that leaves the plans and the store, or takes the record at the front out with its references. -/
def State.KeepsOrRetires (s t : State) : Prop :=
  t.plans = s.plans ∧ t.store = s.store
    ∨ ∃ r rest, s.table.records = r :: rest ∧ t.plans = rest.map PanelRecord.plan ∧ t.store = s.store.releaseRecord r

theorem State.KeepsOrRetires.of_eq {t u : State} (h : s.KeepsOrRetires t) (plans : u.plans = t.plans)
    (store : u.store = t.store) : s.KeepsOrRetires u := by
  unfold State.KeepsOrRetires
  rw [plans, store]
  exact h

theorem State.retire_keepsOrRetires (o : CutOutcome) : s.KeepsOrRetires (s.retire o) := by
  rcases h : s.table.records with - | ⟨r, rest⟩
  · refine .inl ?_
    rw [State.retire, h]
    exact ⟨rfl, rfl⟩
  · refine .inr ⟨r, rest, h, ?_, ?_⟩ <;> rw [State.retire_front h] <;> rfl

theorem State.missCut_keepsOrRetires (o : CutOutcome) : s.KeepsOrRetires (s.missCut o) := by
  rcases h : s.table.records with - | ⟨r, rest⟩
  · refine .inl ?_
    rw [State.missCut, h]
    exact ⟨rfl, rfl⟩
  · obtain ⟨-, records, store, -, -⟩ := State.missCut_front h o
    exact .inr ⟨r, rest, h, congrArg (List.map PanelRecord.plan) records, store⟩

/-- Steps 1 and 2 of a W arrival: a rearming request asserted, the pending record tested (R135). -/
def State.tested (s : State) : State :=
  if s.assertRequest.cutter.state = .requesting then s.assertRequest.testPending else s.assertRequest

/-- Step 3 of a W arrival: with no cut pending, that of a DUE record at the front becomes pending (R135). -/
theorem State.cutPoint_eq : s.cutPoint =
    if s.tested.cutter.state = .idle && s.tested.frontDue s.tested.table.records then
      s.tested.makePending (if s.cutter.state = .idle then .requesting else .rearming)
    else s.tested :=
  rfl

/-- The pending record is left or its cut is missed (R135). -/
theorem State.tested_cases : s.tested = s.assertRequest ∨ ∃ o, s.tested = s.assertRequest.missCut o := by
  unfold State.tested State.testPending
  repeat' split
  all_goals simp

theorem State.tested_keepsOrRetires : s.KeepsOrRetires s.tested := by
  rcases s.tested_cases with h | ⟨o, h⟩
  · rw [h]
    exact .inl ⟨State.plans_of_table (by simp), by simp⟩
  · have missed := s.assertRequest.missCut_keepsOrRetires o
    rw [h]
    unfold State.KeepsOrRetires State.plans at missed ⊢
    simpa using missed

theorem State.cutPoint_keepsOrRetires : s.KeepsOrRetires s.cutPoint := by
  rw [State.cutPoint_eq]
  split
  · exact s.tested_keepsOrRetires.of_eq (State.plans_makePending _) (State.makePending_store _ _)
  · exact s.tested_keepsOrRetires

theorem State.wArrival_keepsOrRetires : s.KeepsOrRetires s.wArrival := by
  obtain ⟨-, records, store⟩ := s.wArrival_cutPoint
  exact s.cutPoint_keepsOrRetires.of_eq (congrArg (List.map PanelRecord.plan) records) store

theorem State.acknowledgeCut_keepsOrRetires : s.KeepsOrRetires s.acknowledgeCut := by
  unfold State.acknowledgeCut
  split
  · exact s.retire_keepsOrRetires .cut
  · exact .inl ⟨rfl, rfl⟩

end Sys2Proof.Machine
end

section
/-! PROOF. The invariant of the panel table, the cutter sequence and the events: each record as admission and the folds
leave it, the pending cut at the front, each sticky source within its count and form (R38, R39, R134, R147, R148). -/

namespace Sys2Proof.Machine

variable {s : State}

/-! ### Records -/

theorem lowestKind_isNone_iff (kinds : DefectSet) : lowestKind kinds = none ↔ kinds = 0 := by
  have number (i : Nat) (h : i < 14) : ∃ k : DefectKind, k.number = i := by
    interval_cases i
    exacts [⟨.longStitch, rfl⟩, ⟨.travelClamp, rfl⟩, ⟨.lag, rfl⟩, ⟨.segOverrun, rfl⟩, ⟨.motifDepth, rfl⟩,
      ⟨.tieShort, rfl⟩, ⟨.selectLate, rfl⟩, ⟨.needleBreak, rfl⟩, ⟨.threadOut, rfl⟩, ⟨.barShort, rfl⟩,
      ⟨.barSkipped, rfl⟩, ⟨.rehearsed, rfl⟩, ⟨.cutMissed, rfl⟩, ⟨.aborted, rfl⟩]
  have all (k : DefectKind) : k ∈ DefectKind.all := by cases k <;> decide
  constructor
  · intro none
    rw [lowestKind, List.find?_eq_none] at none
    refine BitVec.eq_of_getLsbD_eq fun i hi => ?_
    obtain ⟨k, rfl⟩ := number i hi
    simpa using none k (all k)
  · rintro rfl
    decide

/-- A fold leaves a record as it should be (R52). -/
theorem PanelRecord.Wf.fold {r : PanelRecord} (h : r.Wf) (bar : Option Bar) (kinds : DefectSet) (y : Int) :
    (r.fold bar kinds y).Wf := by
  have added (b : Bar) : ((r.addBarDefects bar kinds).get b).pattern = (r.bars.get b).pattern
      ∧ ((r.addBarDefects bar kinds).get b).status = (r.bars.get b).status
      ∧ ((r.addBarDefects bar kinds).get b).origin = (r.bars.get b).origin
      ∧ (((r.addBarDefects bar kinds).get b).defects = (r.bars.get b).defects
        ∨ ((r.addBarDefects bar kinds).get b).defects = (r.bars.get b).defects ||| kinds) := by
    rcases bar with - | c
    · exact ⟨rfl, rfl, rfl, .inl rfl⟩
    · simp only [PanelRecord.addBarDefects, PerBar.get_set]
      split <;> simp_all
  refine ⟨h.tag, h.length, h.tailMargin, fun b => ?_, fun b => ?_, fun b => ?_, Nat.min_le_right _ _, ?_⟩
  · simpa only [PanelRecord.fold, (added b).2.2.1] using h.origins b
  · simpa only [PanelRecord.fold, (added b).1, (added b).2.1] using h.noPattern b
  · have inside := h.barDefects b
    simp only [PanelRecord.fold]
    rcases (added b).2.2.2 with e | e <;> rw [e] <;> rw [← inside] <;> ext i <;> simp <;> grind
  · simp only [PanelRecord.fold, Option.or_eq_none_iff, Option.map_eq_none_iff, lowestKind_isNone_iff, h.first]
    exact BitVec.or_eq_zero_iff.symm

/-- A new status for a bar leaves a record as it should be, where both are NONE or neither is (R51, R137). -/
theorem PanelRecord.Wf.setStatus {r : PanelRecord} (h : r.Wf) {b : Bar} {status : BarStatus}
    (hs : status = .absent ↔ (r.bars.get b).status = .absent) : (r.setStatus b status).Wf := by
  have kept (c : Bar) : ((r.setStatus b status).bars.get c).pattern = (r.bars.get c).pattern
      ∧ (((r.setStatus b status).bars.get c).status = .absent ↔ (r.bars.get c).status = .absent)
      ∧ ((r.setStatus b status).bars.get c).origin = (r.bars.get c).origin
      ∧ ((r.setStatus b status).bars.get c).defects = (r.bars.get c).defects := by
    simp only [PanelRecord.setStatus, PerBar.get_set]
    split <;> simp_all
  refine ⟨h.tag, h.length, h.tailMargin, fun c => ?_, fun c => ?_, fun c => ?_, h.notices, h.first⟩
  · rw [(kept c).2.2.1]
    exact h.origins c
  · rw [(kept c).1, (kept c).2.1]
    exact h.noPattern c
  · rw [(kept c).2.2.2]
    exact h.barDefects c

theorem PanelRecord.Wf.settled {r : PanelRecord} (h : r.Wf) (b : Bar) (y : Int) : (r.settled b y).Wf := by
  unfold PanelRecord.settled
  split
  · exact (h.setStatus (by simp [*])).fold _ _ _
  · exact (h.setStatus (by simp [*])).fold _ _ _
  · exact h

/-! ### The table -/

/-- An update that keeps each record as it should be and its plan keeps the table so. -/
theorem PanelTable.Wf.of_plans {t u : PanelTable} (h : t.Wf)
    (plans : u.records.map PanelRecord.plan = t.records.map PanelRecord.plan) (wf : ∀ r ∈ u.records, r.Wf) :
    u.Wf := by
  have tags : u.records.map (·.tag) = t.records.map (·.tag) := by
    have first := congrArg (List.map Prod.fst) plans
    rwa [List.map_map, List.map_map] at first
  have count : u.records.length = t.records.length := by simpa using congrArg List.length plans
  exact ⟨count ▸ h.count, wf, tags ▸ h.tags⟩

theorem PanelTable.Wf.of_sublist {t u : PanelTable} (h : t.Wf) (sub : u.records.Sublist t.records) : u.Wf :=
  ⟨sub.length_le.trans h.count, fun r hr => h.records r (sub.subset hr), (sub.map _).nodup h.tags⟩

/-- An update of one head changes at most the record that the head finds first. -/
theorem mem_updateHead_find {head : Word} {f : PanelRecord → PanelRecord} {l : List PanelRecord} {q : PanelRecord}
    (h : q ∈ updateHead head f l) : q ∈ l ∨ ∃ r, l.find? (fun r => r.head = head) = some r ∧ q = f r := by
  induction l with
  | nil => exact absurd h List.not_mem_nil
  | cons r l ih =>
    unfold updateHead at h
    split at h
    · rcases List.mem_cons.mp h with rfl | h
      · exact .inr ⟨r, by simp [*], rfl⟩
      · exact .inl (List.mem_cons_of_mem _ h)
    · rcases List.mem_cons.mp h with rfl | h
      · exact .inl List.mem_cons_self
      · rcases ih h with old | ⟨r', found, rfl⟩
        · exact .inl (List.mem_cons_of_mem _ old)
        · exact .inr ⟨r', by simp [*], rfl⟩

theorem State.updateRecord_wf (h : s.table.Wf) {head : Word} {f : PanelRecord → PanelRecord}
    (plan : ∀ r, (f r).plan = r.plan) (wf : ∀ r, s.findRecord head = some r → r.Wf → (f r).Wf) :
    (s.updateRecord head f).table.Wf := by
  refine h.of_plans (State.plans_updateRecord plan head) fun r hr => ?_
  rcases mem_updateHead_find hr with old | ⟨q, found, rfl⟩
  · exact h.records r old
  · exact wf q found (h.records q (State.findRecord_some found).1)

/-! ### The pending cut -/

/-- What the cutter sequence reads of the records: their heads and which of them is pending. -/
def State.pendings (s : State) : List (Word × Bool) := s.table.records.map (fun r => (r.head, r.cutPending))

/-- The pending cut as R134 has it, said of the heads and the pending marks. -/
theorem State.cutterWf_iff : s.CutterWf ↔
    match s.cutter.state with
    | .idle => s.cutter.pendingHead = none ∧ ∀ m ∈ s.pendings, m.2 = false
    | _ => ∃ head rest, s.pendings = (head, true) :: rest ∧ s.cutter.pendingHead = some head
        ∧ ∀ m ∈ rest, m.2 = false := by
  unfold State.CutterWf State.pendings
  have busy : (∃ r rest, s.table.records = r :: rest ∧ r.cutPending = true ∧ s.cutter.pendingHead = some r.head
        ∧ ∀ q ∈ rest, q.cutPending = false)
      ↔ ∃ head rest, s.table.records.map (fun r => (r.head, r.cutPending)) = (head, true) :: rest
        ∧ s.cutter.pendingHead = some head ∧ ∀ m ∈ rest, m.2 = false := by
    constructor
    · rintro ⟨r, rest, records, pending, head, none⟩
      exact ⟨r.head, rest.map (fun r => (r.head, r.cutPending)), by simp [records, pending], head, by simpa using none⟩
    · rintro ⟨head, marks, records, pending, none⟩
      rw [List.map_eq_cons_iff] at records
      obtain ⟨r, rest, records, front, rfl⟩ := records
      simp only [Prod.mk.injEq] at front
      exact ⟨r, rest, records, front.2, front.1 ▸ pending, by simpa using none⟩
  cases s.cutter.state
  · simp
  · exact busy
  · exact busy

theorem State.CutterWf.of_eq {t : State} (h : s.CutterWf) (state : t.cutter.state = s.cutter.state)
    (head : t.cutter.pendingHead = s.cutter.pendingHead) (pendings : t.pendings = s.pendings) : t.CutterWf := by
  rw [State.cutterWf_iff, state, head, pendings]
  exact State.cutterWf_iff.mp h

/-- No record behind the front is pending (R134). -/
theorem State.CutterWf.rest {r : PanelRecord} {rest : List PanelRecord} (h : s.CutterWf)
    (records : s.table.records = r :: rest) : ∀ q ∈ rest, q.cutPending = false := by
  unfold State.CutterWf at h
  split at h
  · intro q hq
    exact h.2 q (by rw [records]; exact List.mem_cons_of_mem _ hq)
  · obtain ⟨r', rest', records', -, -, none⟩ := h
    rw [records, List.cons.injEq] at records'
    rw [records'.2]
    exact none

theorem State.pendings_of_table {t : State} (h : t.table = s.table) : t.pendings = s.pendings := by
  rw [State.pendings, h, State.pendings]

theorem State.pendings_updateRecord {f : PanelRecord → PanelRecord}
    (hf : ∀ r, ((f r).head, (f r).cutPending) = (r.head, r.cutPending)) (head : Word) :
    (s.updateRecord head f).pendings = s.pendings :=
  map_updateHead (fun r : PanelRecord => (r.head, r.cutPending)) hf s.table.records

/-! ### Events -/

/-- Every sticky source is as R147 and R148 say. -/
def State.EventsWf (s : State) : Prop := ∀ e, (s.event e).Wf e

theorem State.EventsWf.raise (h : s.EventsWf) (e : Sticky) {d : Option Detail}
    (hd : ∀ x, d = some x → e.hasForm x = true) : (s.raise e d).EventsWf := by
  intro e'
  rw [State.event_raise]
  split
  · subst e'
    refine ⟨Nat.min_le_right _ _, fun x hx => ?_⟩
    rcases Option.or_eq_some_iff.mp hx with given | ⟨-, old⟩
    · exact hd x given
    · exact (h e).detail x old
  · exact h e'

theorem State.EventsWf.raiseIf (h : s.EventsWf) (c : Bool) (e : Sticky) {d : Option Detail}
    (hd : ∀ x, d = some x → e.hasForm x = true) : (s.raiseIf c e d).EventsWf := by
  unfold State.raiseIf
  split
  · exact h.raise e hd
  · exact h

theorem State.EventsWf.of_eq {t : State} (h : s.EventsWf) (events : t.events = s.events) : t.EventsWf := by
  intro e
  rw [State.event, events]
  exact h e

/-! ### The invariant -/

/-- The table, the pending cut and the sticky sources are as the rules say they always are. -/
structure State.Sound (s : State) : Prop where
  table : s.table.Wf
  cutter : s.CutterWf
  events : s.EventsWf

/-- Changes to the rest of the state, or to the stored starvation state, keep the invariant. -/
theorem State.Sound.of_eq {t : State} (h : s.Sound) (records : t.table.records = s.table.records)
    (cutter : t.cutter = s.cutter) (events : t.events = s.events) : t.Sound := by
  refine ⟨?_, ?_, h.events.of_eq events⟩
  · exact h.table.of_sublist (by rw [records])
  · exact h.cutter.of_eq (by rw [cutter]) (by rw [cutter]) (by rw [State.pendings, records, State.pendings])

theorem State.Sound.raise (h : s.Sound) (e : Sticky) {d : Option Detail}
    (hd : ∀ x, d = some x → e.hasForm x = true) : (s.raise e d).Sound :=
  ⟨h.table, h.cutter.of_eq rfl rfl rfl, h.events.raise e hd⟩

theorem State.Sound.raiseIf (h : s.Sound) (c : Bool) (e : Sticky) {d : Option Detail}
    (hd : ∀ x, d = some x → e.hasForm x = true) : (s.raiseIf c e d).Sound := by
  unfold State.raiseIf
  split
  · exact h.raise e hd
  · exact h

/-- An update of one record that keeps its plan, its pending mark and its being as it should be. -/
theorem State.Sound.updateRecord (h : s.Sound) {head : Word} {f : PanelRecord → PanelRecord}
    (plan : ∀ r, (f r).plan = r.plan) (pending : ∀ r, ((f r).head, (f r).cutPending) = (r.head, r.cutPending))
    (wf : ∀ r, s.findRecord head = some r → r.Wf → (f r).Wf) : (s.updateRecord head f).Sound :=
  ⟨State.updateRecord_wf h.table plan wf, h.cutter.of_eq rfl rfl (State.pendings_updateRecord pending head), h.events⟩

/-- A tag in the table is not 0, so that it is of the form of a detail. -/
theorem State.Sound.tag (h : s.Sound) {r : PanelRecord} (hr : r ∈ s.table.records) : (r.tag != 0) = true := by
  simpa using (h.table.records r hr).tag

theorem State.Sound.fold (h : s.Sound) (head : Word) (bar : Option Bar) (kinds : DefectSet) (y : Int) :
    (s.fold head bar kinds y).Sound := by
  unfold State.fold
  split
  · exact h
  · rename_i r hr
    refine (h.updateRecord (fun r => r.plan_fold bar kinds y) (fun _ => rfl)
      fun r _ hr => hr.fold bar kinds y).raiseIf _ _ ?_
    rintro _ ⟨⟩
    exact h.tag (State.findRecord_some hr).1

theorem State.Sound.settle (h : s.Sound) (head : Word) (b : Bar) : (s.settle head b).Sound := by
  unfold State.settle
  dsimp only
  split
  · exact h
  rename_i r hr
  have statused (status : BarStatus) (hs : status = .absent ↔ (r.bars.get b).status = .absent) :
      (s.updateRecord head (·.setStatus b status)).Sound := by
    refine h.updateRecord (fun r => r.plan_setStatus b status) (fun _ => rfl) fun q hq wf => ?_
    cases hr.symm.trans hq
    exact wf.setStatus hs
  split
  · exact (statused .skipped (by simp [*])).fold _ _ _ _
  · exact (statused .short (by simp [*])).fold _ _ _ _
  · exact h

theorem State.Sound.takeStatus (h : s.Sound) (m : StatusMessage) : (s.takeStatus m).Sound := by
  refine h.updateRecord (fun r => ?_) (fun r => ?_) fun r _ wf => ?_
  · split
    · rfl
    · exact r.plan_setStatus _ _
  · split <;> rfl
  · split
    · exact wf
    · refine wf.setStatus ?_
      cases m.news <;> simp [StatusNews.status, *]

theorem State.Sound.takeNotice (h : s.Sound) (n : DefectNotice) : (s.takeNotice n).Sound := by
  have folded := h.fold n.head (some n.bar) n.kinds n.y
  unfold State.takeNotice
  split
  · exact h
  · dsimp only
    split
    · refine (folded.raise .defectStop (d := some (.bar n.bar)) ?_).of_eq rfl rfl rfl
      rintro _ ⟨⟩
      rfl
    · exact folded

theorem drawNeedles_events (b : Bar) (c : Nat) (ns : List NeedleNo) (a : State × Bool) (h : a.1.EventsWf) :
    (ns.foldl (drawNeedle b c) a).1.EventsWf := by
  induction ns generalizing a with
  | nil => exact h
  | cons n ns ih =>
    refine ih _ (((h.of_eq ?_).raiseIf _ _ ?_).raiseIf _ _ ?_)
    · exact State.setNeedle_events _ _ _ _
    · rintro _ ⟨⟩
      rfl
    · rintro _ ⟨⟩
      rfl

theorem evaluateNeedles_events (b : Bar) (channels : NeedleSet) (ns : List NeedleNo) (a : State × Bool)
    (h : a.1.EventsWf) : (ns.foldl (evaluateNeedle b channels) a).1.EventsWf := by
  induction ns generalizing a with
  | nil => exact h
  | cons n ns ih =>
    refine ih _ ((((h.of_eq ?_).raiseIf _ _ ?_).raiseIf _ _ ?_).raiseIf _ _ ?_)
    · exact State.setNeedle_events _ _ _ _
    all_goals
      rintro _ ⟨⟩
      rfl

theorem State.Sound.takeConsumption (h : s.Sound) (n : ConsumptionNotice) : (s.takeConsumption n).Sound := by
  have drawn := drawNeedles_events n.bar (threadDrawn n.advance (s.params.threadFactor.get n.bar)) (members n.frame)
    (s, false) h.events
  refine ⟨by simpa using h.table, h.cutter.of_eq (by simp) (by simp) (State.pendings_of_table (by simp)), ?_⟩
  unfold State.takeConsumption
  dsimp only
  split
  · exact drawn.of_eq (State.sendMonitorNotice_events _ _ _ _)
  · exact drawn

theorem State.Sound.takeScanRequest (h : s.Sound) (r : ScanRequest) : (s.takeScanRequest r).Sound := by
  have overtaken : (s.overtakeScan r.bar).EventsWf := by
    unfold State.overtakeScan
    split
    · refine h.events.raiseIf _ _ ?_
      rintro _ ⟨⟩
      rfl
    · exact h.events
  refine ⟨by simpa using h.table, h.cutter.of_eq (by simp) (by simp) (State.pendings_of_table (by simp)), ?_⟩
  unfold State.takeScanRequest
  dsimp only
  split <;> exact overtaken.of_eq rfl

theorem State.Sound.deliver (h : s.Sound) (m : Message) : (s.deliver m).Sound := by
  cases m with
  | status m => exact h.takeStatus m
  | notice n => exact h.takeNotice n
  | consumption n => exact h.takeConsumption n
  | scan r => exact h.takeScanRequest r

/-- What every message taken keeps, and what does not read the messages in flight, the flush keeps. -/
theorem State.flush_induction {P : State → Prop} (h : P s) (b : Bar)
    (hqueue : ∀ (u : State) (ms : List Message) (n : Nat), P u → P { u with messages := ms, choices := n })
    (hdeliver : ∀ (u : State) (m : Message), P u → P (u.deliver m)) : P (s.flush b) := by
  have taken (ms : List Message) (u : State) (hu : P u) : P (ms.foldl State.deliver u) := by
    induction ms generalizing u with
    | nil => exact hu
    | cons m ms ih => exact ih _ (hdeliver u m hu)
  unfold State.flush
  split
  · exact h
  · exact taken _ _ (hqueue s _ _ h)

theorem State.Sound.flush (h : s.Sound) (b : Bar) : (s.flush b).Sound :=
  State.flush_induction h b (fun _ _ _ hu => hu.of_eq rfl rfl rfl) fun _ m hu => hu.deliver m

theorem State.Sound.evaluateStroke (h : s.Sound) (b : Bar) : (s.evaluateStroke b).Sound := by
  refine ⟨by simpa using h.table, h.cutter.of_eq (by simp) (by simp) (State.pendings_of_table (by simp)), ?_⟩
  refine State.EventsWf.of_eq (((h.events.of_eq ?_).raiseIf _ _ ?_).raiseIf _ _ ?_) (State.send_events _ _)
  · exact State.setBar_events _ _ _
  all_goals
    rintro _ ⟨⟩
    rfl

theorem State.Sound.takeEcho (h : s.Sound) (b : Bar) (echo : NeedleSet) : (s.takeEcho b echo).Sound := by
  unfold State.takeEcho
  dsimp only
  split
  · exact h
  · have ended (c : Control) : (s.setControl b c).Sound := h.of_eq rfl rfl rfl
    split
    · exact ended _
    · refine ((ended _).raise .selectFault ?_).of_eq rfl rfl rfl
      rintro _ ⟨⟩
      rfl

theorem State.Sound.takeScanData (h : s.Sound) (b : Bar) (channels : NeedleSet) : (s.takeScanData b channels).Sound := by
  refine ⟨by simpa using h.table, h.cutter.of_eq (by simp) (by simp) (State.pendings_of_table (by simp)), ?_⟩
  unfold State.takeScanData
  dsimp only
  split
  · rename_i scan _
    have evaluated := evaluateNeedles_events b channels (members scan.expected) (s.setScan b .atRest, false)
      (h.events.of_eq rfl)
    unfold State.evaluateScan
    dsimp only
    split
    · exact evaluated.of_eq (State.sendMonitorNotice_events _ _ _ _)
    · exact evaluated
  · exact h.events.of_eq rfl

/-! ### The cut -/

theorem State.Sound.retire (h : s.Sound) (o : CutOutcome) : (s.retire o).Sound := by
  rcases records : s.table.records with - | ⟨r, rest⟩
  · rw [State.retire, records]
    exact h
  · rw [State.retire_front records]
    have out : State.Sound { s with
        cutter := ⟨.idle, none, some (r.summary o s.w), s.cutter.retirements + 1⟩
        table := { s.table with records := rest }
        store := s.store.releaseRecord r } := by
      refine ⟨h.table.of_sublist ?_, ⟨rfl, h.cutter.rest records⟩, h.events.of_eq rfl⟩
      rw [records]
      exact List.sublist_cons_self r rest
    refine (out.raise .panelRetired ?_).of_eq rfl rfl rfl
    rintro _ ⟨⟩
    exact h.tag (by rw [records]; exact List.mem_cons_self)

theorem State.Sound.missCut (h : s.Sound) (o : CutOutcome) : (s.missCut o).Sound := by
  unfold State.missCut
  split
  · exact h
  · rename_i r rest records
    refine ((h.fold _ _ _ _).raise .cutMissed ?_).retire o
    rintro _ ⟨⟩
    exact h.tag (by rw [records]; exact List.mem_cons_self)

/-- The cut of the record at the front becomes pending (R136). -/
theorem State.Sound.makePending (h : s.Sound) {next : CutterState}
    (hn : next ≠ .idle) : (s.makePending next).Sound := by
  unfold State.makePending
  split
  · exact h
  rename_i r rest records
  have marked : State.Sound { s with
      cutter := { s.cutter with state := next, pendingHead := some r.head }
      table := { s.table with records := { r with cutPending := true } :: rest } } := by
    refine ⟨h.table.of_plans (by simp [records, PanelRecord.plan]) ?_, ?_, h.events.of_eq rfl⟩
    · intro q hq
      have wf := h.table.records
      rw [records] at wf
      rcases List.mem_cons.mp hq with rfl | hq
      · have := wf r List.mem_cons_self
        exact ⟨this.tag, this.length, this.tailMargin, this.origins, this.noPattern, this.barDefects, this.notices,
          this.first⟩
      · exact wf q (List.mem_cons_of_mem _ hq)
    · unfold State.CutterWf
      cases next
      · exact absurd rfl hn
      all_goals exact ⟨_, _, rfl, rfl, rfl, h.cutter.rest records⟩
  exact ((marked.settle r.head .A).settle r.head .B).settle r.head .C

theorem State.Sound.assertRequest (h : s.Sound) : s.assertRequest.Sound := by
  unfold State.assertRequest
  split
  · rename_i rearming
    refine ⟨h.table, ?_, h.events.of_eq rfl⟩
    have cutter := h.cutter
    unfold State.CutterWf at cutter ⊢
    rw [rearming] at cutter
    exact cutter
  · exact h

theorem State.Sound.cutPoint (h : s.Sound) : s.cutPoint.Sound := by
  have tested : s.tested.Sound := by
    rcases s.tested_cases with same | ⟨o, missed⟩
    · exact same ▸ h.assertRequest
    · exact missed ▸ h.assertRequest.missCut o
  rw [State.cutPoint_eq]
  split
  · exact tested.makePending (by split <;> simp)
  · exact tested

theorem State.Sound.wArrival (h : s.Sound) : s.wArrival.Sound := by
  refine State.Sound.raiseIf ?_ _ _ (by simp)
  exact h.cutPoint.of_eq rfl rfl rfl

theorem State.Sound.acknowledgeCut (h : s.Sound) : s.acknowledgeCut.Sound := by
  unfold State.acknowledgeCut
  split
  · exact h.retire .cut
  · exact h.raise .cutStray (by simp)

/-! ### Restarts -/

theorem eventsAtStart_event {cause : RestartCause} (h : s.events = eventsAtStart cause) (e : Sticky) :
    s.event e = if e = .restarted then ⟨1, some (.restart cause)⟩ else ⟨0, none⟩ := by
  rw [State.event, h]
  cases e <;> rfl

/-- The table, the cutter sequence and the sources as operation starts with them (R146, R155). -/
theorem State.Sound.of_start (records : s.table.records = []) (cutter : s.cutter = .reset) {cause : RestartCause}
    (events : s.events = eventsAtStart cause) : s.Sound := by
  refine ⟨⟨?_, ?_, ?_⟩, ?_, fun e => ?_⟩
  · simp [records]
  · simp [records]
  · simp [records]
  · simp [State.CutterWf, cutter, Cutter.reset, records]
  · rw [eventsAtStart_event events]
    split
    · subst e
      exact ⟨Nat.le_of_ble_eq_true rfl, by rintro _ ⟨⟩; rfl⟩
    · exact ⟨Nat.zero_le _, by simp⟩

theorem State.Sound.dropOperations (h : s.Sound) : s.dropOperations.Sound := by
  refine ⟨h.table.of_plans ?_ ?_, ⟨rfl, ?_⟩, h.events.of_eq rfl⟩
  · simp [State.dropOperations, PanelRecord.plan, Function.comp_def]
  · intro q hq
    obtain ⟨r, hr, rfl⟩ := List.mem_map.mp hq
    have := h.table.records r hr
    exact ⟨this.tag, this.length, this.tailMargin, this.origins, this.noPattern, this.barDefects, this.notices,
      this.first⟩
  · simp [State.dropOperations]

/-! ### Requests -/

theorem patternOf_isSome_iff (n : Nat) : (patternOf? n).isSome = true ↔ 1 ≤ n ∧ n ≤ 32 := by
  unfold patternOf?
  split <;> simp_all

/-- An admitted record is as it should be (R38, R43). -/
theorem Admission.record_wf {a : Admission} (h : a.inRange = true) (head : Word) : (a.record head).Wf := by
  simp only [Admission.inRange, Bool.and_eq_true, decide_eq_true_eq, Bool.or_eq_true] at h
  obtain ⟨⟨⟨⟨⟨⟨⟨⟨⟨⟨t1, t2⟩, -⟩, -⟩, l1⟩, l2⟩, tm⟩, -⟩, ha⟩, hb⟩, hc⟩ := h
  have bars (b : Bar) : (a.bars.get b).inRange = true := by cases b <;> assumption
  have barIs (b : Bar) : ((a.record head).bars.get b) = (a.bars.get b).panelBar := PerBar.get_map _ _ _
  refine ⟨?_, ⟨l1, l2⟩, tm, fun b => ?_, fun b => ?_, fun b => ?_, Nat.zero_le _, ⟨fun _ => rfl, fun _ => rfl⟩⟩
  · intro zero
    have := congrArg BitVec.toNat zero
    simp [Admission.record] at this
    omega
  · rw [barIs]
    have := bars b
    simp only [BarRequest.inRange, Bool.and_eq_true, decide_eq_true_eq] at this
    exact ⟨this.1.1.2, this.1.2⟩
  · rw [barIs]
    simp only [BarRequest.panelBar]
    cases patternOf? (a.bars.get b).pattern <;> simp
  · rw [barIs]
    simp [BarRequest.panelBar, Admission.record]

theorem State.addPanel_records (r : PanelRecord) : (s.addPanel r).table.records = s.table.records ++ [r] := rfl

theorem State.Sound.addPanel (h : s.Sound) {r : PanelRecord} (hr : r.Wf) (room : s.table.records.length < 16)
    (tag : s.findTag r.tag.toNat = none) (pending : r.cutPending = false) : (s.addPanel r).Sound := by
  refine ⟨⟨?_, fun q hq => ?_, ?_⟩, ?_, h.events.of_eq (by simp)⟩
  · rw [State.addPanel_records, List.length_append, List.length_singleton]
    omega
  · rw [State.addPanel_records, List.mem_append, List.mem_singleton] at hq
    rcases hq with old | rfl
    · exact h.table.records q old
    · exact hr
  · rw [State.addPanel_records, List.map_append, List.nodup_append]
    refine ⟨h.table.tags, by simp, ?_⟩
    intro x hx y hy same
    obtain ⟨q, hq, rfl⟩ := List.mem_map.mp hx
    obtain rfl : y = r.tag := by simpa using hy
    rw [State.findTag, List.find?_eq_none] at tag
    exact tag q hq (by simp [same])
  · have cutter := State.cutterWf_iff.mp h.cutter
    have pendings : (s.addPanel r).pendings = s.pendings ++ [(r.head, false)] := by
      simp [State.pendings, State.addPanel_records, pending]
    rw [State.cutterWf_iff, pendings, State.addPanel_cutter]
    revert cutter
    split
    · rintro ⟨head, none⟩
      exact ⟨head, by simpa [or_imp, forall_and] using none⟩
    · rintro ⟨head, rest, front, pendingHead, none⟩
      exact ⟨head, rest ++ [(r.head, false)], by rw [front]; rfl, pendingHead, by simpa [or_imp, forall_and] using none⟩

theorem State.removeRecord_records (r : PanelRecord) :
    (s.removeRecord r).table.records = s.table.records.eraseP (fun q => q.tag = r.tag) := rfl

/-- A record that is not pending may leave the table (R46). -/
theorem State.Sound.removeRecord (h : s.Sound) {r : PanelRecord} (found : s.findTag r.tag.toNat = some r)
    (pending : r.cutPending = false) : (s.removeRecord r).Sound := by
  have sub : (s.removeRecord r).table.records.Sublist s.table.records := List.eraseP_sublist
  refine ⟨h.table.of_sublist sub, ?_, h.events.of_eq (by simp)⟩
  have cutter := h.cutter
  unfold State.CutterWf at cutter ⊢
  rw [State.removeRecord_cutter]
  revert cutter
  split
  · rintro ⟨head, none⟩
    exact ⟨head, fun q hq => none q (sub.subset hq)⟩
  · rintro ⟨front, rest, records, frontPending, head, none⟩
    have other : front.tag ≠ r.tag := by
      intro same
      rw [State.findTag, records, List.find?_cons_of_pos (by simp [same]), Option.some.injEq] at found
      rw [found, pending] at frontPending
      cases frontPending
    refine ⟨front, rest.eraseP (fun q => q.tag = r.tag), ?_, frontPending, head, fun q hq => none q (List.mem_of_mem_eraseP hq)⟩
    rw [State.removeRecord_records, records, List.eraseP_cons_of_neg (by simp [other])]

theorem State.Sound.markAborted (h : s.Sound) (r : PanelRecord) : (s.markAborted r).Sound := by
  refine (h.updateRecord (f := fun q => { q with aborted := true }) (fun _ => rfl) (fun _ => rfl) fun q _ wf => ?_).fold
    _ _ _ _
  exact ⟨wf.tag, wf.length, wf.tailMargin, wf.origins, wf.noPattern, wf.barDefects, wf.notices, wf.first⟩

theorem State.EventsWf.acknowledge (h : s.EventsWf) (named : SourceSet) : (s.acknowledge named).EventsWf := by
  have cleared (es : List Sticky) (u : State) (hu : u.EventsWf) : State.EventsWf (es.foldl
      (fun t e => if named.getLsbD e.number then t.setEvent e ⟨0, (t.event e).detail⟩ else t) u) := by
    induction es generalizing u with
    | nil => exact hu
    | cons e es ih =>
      refine ih _ ?_
      dsimp only
      split
      · intro e'
        rw [State.event_setEvent]
        split
        · subst e'
          exact ⟨Nat.zero_le _, (hu e).detail⟩
        · exact hu e'
      · exact hu
  exact cleared _ s h

theorem State.afterWrite_frame (id : ParamId) (s : State) : (s.afterWrite id).table.records = s.table.records
    ∧ (s.afterWrite id).cutter = s.cutter ∧ (s.afterWrite id).events = s.events
    ∧ (s.afterWrite id).store = s.store ∧ (s.afterWrite id).bars = s.bars ∧ (s.afterWrite id).params = s.params
    ∧ (s.afterWrite id).w = s.w := by
  cases id <;> exact ⟨rfl, rfl, rfl, rfl, rfl, rfl, rfl⟩

theorem State.Sound.owned (h : s.Sound) {t : State} (ht : s.Owned t) : t.Sound := by
  cases ht with
  | kept => exact h
  | admitted a room tag range usable ahead near order =>
    refine h.addPanel (Admission.record_wf range _) room ?_ rfl
    simp only [Admission.inRange, Bool.and_eq_true, decide_eq_true_eq] at range
    have small : (a.record (s.admittedHead a)).tag.toNat = a.tag := by
      simp only [Admission.record, BitVec.toNat_ofNat]
      omega
    rw [small, tag]
  | removed r found pending => exact h.removeRecord found pending
  | aborted r => exact h.markAborted r
  | written_param id v allowed =>
    obtain ⟨records, cutter, events, -⟩ := State.afterWrite_frame id { s with params := s.params.store id v }
    exact h.of_eq records cutter events
  | acknowledged named =>
    exact ⟨by simpa using h.table, h.cutter.of_eq (by simp) (by simp) (State.pendings_of_table (by simp)),
      h.events.acknowledge named⟩
  | cleared => exact ⟨⟨by simp [State.lineClear], by simp [State.lineClear], by simp [State.lineClear]⟩,
      ⟨rfl, by simp [State.lineClear]⟩, h.events.of_eq rfl⟩
  | _ => exact h.of_eq (by simp) (by simp) (by simp)

/-- Every effect of a command keeps the invariant. -/
theorem State.Sound.effect (h : s.Sound) {t : State} (ht : s.Effect t) : t.Sound := by
  cases ht with
  | started cause => exact .of_start rfl rfl rfl
  | dropped => exact h.dropOperations
  | miscounted => exact (h.raise .encoderFault (by simp)).of_eq rfl rfl rfl
  | moved w _ => exact (h.of_eq (t := s.setW w) rfl rfl rfl).wArrival
  | acknowledged => exact h.acknowledgeCut
  | stroked b => exact (h.flush b).evaluateStroke b
  | echoed b echo => exact h.takeEcho b echo
  | delivered m => exact h.deliver m
  | scanned b channels => exact h.takeScanData b channels
  | frameFailed e => exact h.raise .linkErr (by rintro _ ⟨⟩; rfl)
  | frameStopped e => exact (h.raise .linkErr (by rintro _ ⟨⟩; rfl)).of_eq rfl rfl rfl
  | answered owned => exact h.owned owned

theorem State.Sound.step (h : s.Sound) {t : State} (ht : step s = .next t) : t.Sound := by
  obtain ⟨u, v, before, effect, after⟩ := step_becomes ht
  have hu : u.Sound := h.of_eq (by rw [before.table]) before.cutter before.events
  exact (hu.effect effect).of_eq (by rw [after.table]) after.cutter after.events

end Sys2Proof.Machine
end

section
/-! PROOF. The order of the panels on the web: while distances are exact, a record enters behind all others, and no step
moves one, so that heads differ and panels do not overlap (R5, R38, R39). -/

namespace Sys2Proof.Machine

variable {s : State}

/-! ### Web distances -/

/-- A position is another one moved on by the distance between them. -/
theorem add_webDist (a b : Word) : b + BitVec.ofInt 32 (webDist a b) = a := by
  rw [webDist, BitVec.ofInt_toInt]
  ring

theorem ofInt_sub (d e : Int) : BitVec.ofInt 32 (d - e) = BitVec.ofInt 32 d - BitVec.ofInt 32 e := by
  rw [Int.sub_eq_add_neg, BitVec.ofInt_add, BitVec.ofInt_neg]
  ring

/-- A distance within 2^31 is the distance moved. -/
theorem webDist_add_ofInt (w : Word) {d e : Int} (h : -2147483648 ≤ d - e) (h' : d - e < 2147483648) :
    webDist (w + BitVec.ofInt 32 d) (w + BitVec.ofInt 32 e) = d - e := by
  have moved : w + BitVec.ofInt 32 d - (w + BitVec.ofInt 32 e) = BitVec.ofInt 32 (d - e) := by
    rw [ofInt_sub]
    ring
  rw [webDist, moved, BitVec.toInt_ofInt]
  exact Int.bmod_eq_of_le (by simpa using h) (by simpa using h')

theorem ofNat_eq_ofInt (n : Nat) : BitVec.ofNat 32 n = BitVec.ofInt 32 n := (BitVec.ofInt_natCast 32 n).symm

/-- Distances to a third position give the distance between two, less a length behind the second. -/
theorem webDist_sub {a b w : Word} (n : Nat) (h : -2147483648 ≤ webDist a w - webDist b w - n)
    (h' : webDist a w - webDist b w - n < 2147483648) :
    webDist a (b + BitVec.ofNat 32 n) = webDist a w - webDist b w - n := by
  have key := webDist_add_ofInt w (d := webDist a w) (e := webDist b w + n) (by omega) (by omega)
  rw [add_webDist, BitVec.ofInt_add, ← add_assoc, add_webDist, ← ofNat_eq_ofInt] at key
  omega

/-! ### The order of the records -/

/-- One plan lies ahead of another: the second begins no sooner than the first ends (R39). -/
def PlanAhead (p q : BitVec 16 × Word × Nat × PerBar (Option PatternId × Option SetNo)) : Prop :=
  0 ≤ webDist q.2.1 (p.2.1 + BitVec.ofNat 32 p.2.2.1)

theorem State.ordered_iff : s.table.Ordered ↔ s.plans.Pairwise PlanAhead := by
  rw [State.plans, List.pairwise_map]
  rfl

/-- The records keep their plans, some may leave, or one is admitted. -/
theorem State.Effect.plans {t : State} (h : s.Effect t) : t.plans.Sublist s.plans ∨ ∃ a : Admission, a.inRange = true
    ∧ 0 ≤ webDist (s.admittedHead a) s.w ∧ webDist (s.admittedHead a) s.w < 16777216
    ∧ s.overlapsNewest (s.admittedHead a) = false
    ∧ t.table.records = s.table.records ++ [a.record (s.admittedHead a)] := by
  have same {u : State} (hu : u.plans = s.plans) : u.plans.Sublist s.plans := by rw [hu]
  have retired {u v : State} (hv : v.plans = s.plans) (hu : v.KeepsOrRetires u) : u.plans.Sublist s.plans := by
    rw [← hv]
    rcases hu with ⟨kept, -⟩ | ⟨r, rest, records, left, -⟩
    · rw [kept]
    · rw [left, State.plans, records]
      exact List.sublist_cons_self _ _
  cases h with
  | started cause => exact .inl (List.nil_sublist _)
  | dropped => exact .inl (same (by simp [State.plans, State.dropOperations, PanelRecord.plan, Function.comp_def]))
  | miscounted => exact .inl (same rfl)
  | moved w _ => exact .inl (retired (v := s.setW w) rfl State.wArrival_keepsOrRetires)
  | acknowledged => exact .inl (retired rfl State.acknowledgeCut_keepsOrRetires)
  | stroked b => exact .inl (same ((State.plans_of_table (by simp)).trans (State.plans_flush b)))
  | echoed b echo => exact .inl (same (State.plans_of_table (by simp)))
  | delivered m => exact .inl (same (State.plans_deliver m))
  | scanned b channels => exact .inl (same (State.plans_of_table (by simp)))
  | frameFailed e => exact .inl (same rfl)
  | frameStopped e => exact .inl (same rfl)
  | answered owned =>
    cases owned with
    | admitted a _ _ range _ ahead near order => exact .inr ⟨a, range, ahead, near, order, rfl⟩
    | removed r => exact .inl (List.eraseP_sublist.map _)
    | aborted r => exact .inl (same (State.plans_markAborted r))
    | written_param id v =>
      exact .inl (same (congrArg (List.map PanelRecord.plan) (State.afterWrite_frame id _).1))
    | cleared => exact .inl (List.nil_sublist _)
    | _ => exact .inl (same (State.plans_of_table (by simp)))

/-- A record admitted while distances are exact begins no sooner than any live record ends (R43). -/
theorem State.admitted_behind (wf : s.table.Wf) (exact_ : s.Exact) (ordered : s.table.Ordered) {head : Word}
    (ahead : 0 ≤ webDist head s.w) (near : webDist head s.w < 16777216) (order : s.overlapsNewest head = false)
    {r : PanelRecord} (hr : r ∈ s.table.records) : 0 ≤ webDist head (r.head + BitVec.ofNat 32 r.length) := by
  have behind (q : PanelRecord) (hq : q ∈ s.table.records) :
      0 ≤ webDist head (q.head + BitVec.ofNat 32 q.length) ↔ webDist q.head s.w + q.length ≤ webDist head s.w := by
    have := exact_ q hq
    have := (wf.records q hq).length
    rw [webDist_sub (w := s.w) q.length (by omega) (by omega)]
    omega
  rw [behind r hr]
  obtain ⟨front, newest, records⟩ : ∃ front newest, s.table.records = front ++ [newest] :=
    ⟨_, _, (List.dropLast_append_getLast (List.ne_nil_of_mem hr)).symm⟩
  have memNewest : newest ∈ s.table.records := by simp [records]
  have last : webDist newest.head s.w + newest.length ≤ webDist head s.w := by
    rw [← behind newest memNewest]
    unfold State.overlapsNewest at order
    rw [records, List.getLast?_concat] at order
    exact Int.not_lt.mp (of_decide_eq_false order)
  have member := hr
  rw [records, List.mem_append, List.mem_singleton] at member
  rcases member with inFront | rfl
  · unfold PanelTable.Ordered at ordered
    rw [records, List.pairwise_append] at ordered
    have apart := ordered.2.2 r inFront newest (List.mem_singleton_self _)
    have := exact_ r hr
    have := exact_ newest memNewest
    have := (wf.records r hr).length
    rw [webDist_sub (w := s.w) r.length (by omega) (by omega)] at apart
    omega
  · exact last

/-- Every effect of a command keeps the order of the records, while distances are exact (R39). -/
theorem State.Effect.ordered {t : State} (h : s.Effect t) (wf : s.table.Wf) (exact_ : s.Exact)
    (ordered : s.table.Ordered) : t.table.Ordered := by
  rcases h.plans with sub | ⟨a, range, ahead, near, order, records⟩
  · exact State.ordered_iff.mpr ((State.ordered_iff.mp ordered).sublist sub)
  · unfold PanelTable.Ordered at ordered ⊢
    rw [records, List.pairwise_append]
    refine ⟨ordered, List.pairwise_singleton _ _, fun r hr q hq => ?_⟩
    rw [List.mem_singleton] at hq
    subst hq
    exact State.admitted_behind wf exact_ ordered ahead near order hr

/-- No web position lies in two panels of which one begins no sooner than the other ends. -/
theorem not_in_both {r q : PanelRecord} (hr : r.length ≤ 1000000) (hq : q.length ≤ 1000000)
    (apart : 0 ≤ webDist q.head (r.head + BitVec.ofNat 32 r.length)) (x : Word) (h1 : webDist x r.head < r.length)
    (h0 : 0 ≤ webDist x r.head) (h2 : 0 ≤ webDist x q.head) (h3 : webDist x q.head < q.length) : False := by
  have toHead : webDist q.head r.head = webDist x r.head - webDist x q.head := by
    have key := webDist_add_ofInt r.head (d := webDist x r.head - webDist x q.head) (e := 0) (by omega) (by omega)
    have moved : r.head + BitVec.ofInt 32 (webDist x r.head - webDist x q.head) = q.head := by
      rw [ofInt_sub, ← add_sub_assoc, add_webDist]
      exact sub_eq_of_eq_add (add_webDist x q.head).symm
    rw [moved] at key
    simpa using key
  have self : webDist r.head r.head = 0 := by simp [webDist]
  rw [webDist_sub (w := r.head) r.length (by omega) (by omega)] at apart
  omega

/-- In an ordered table the panels are apart, and so their heads differ (R39). -/
theorem PanelTable.Ordered.apart {t : PanelTable} (h : t.Ordered) (wf : t.Wf) {i j : Nat} {r q : PanelRecord} {x : Word}
    (hi : t.records[i]? = some r) (hj : t.records[j]? = some q) (hr : 0 ≤ webDist x r.head)
    (hr' : webDist x r.head < r.length) (hq : 0 ≤ webDist x q.head) (hq' : webDist x q.head < q.length) : i = j := by
  have pairs := List.pairwise_iff_getElem.mp h
  obtain ⟨inI, rfl⟩ := List.getElem?_eq_some_iff.mp hi
  obtain ⟨inJ, rfl⟩ := List.getElem?_eq_some_iff.mp hj
  have li := (wf.records _ (List.getElem_mem inI)).length.2
  have lj := (wf.records _ (List.getElem_mem inJ)).length.2
  rcases lt_trichotomy i j with less | same | more
  · exact (not_in_both li lj (pairs i j inI inJ less) x hr' hr hq hq').elim
  · exact same
  · exact (not_in_both lj li (pairs j i inJ inI more) x hq' hq hr hr').elim

theorem PanelTable.Ordered.heads_nodup {t : PanelTable} (h : t.Ordered) (wf : t.Wf) :
    (t.records.map (·.head)).Nodup := by
  rw [List.nodup_iff_getElem?_ne_getElem?]
  intro i j less hj same
  simp only [List.getElem?_map, List.length_map] at same hj
  rw [List.getElem?_eq_getElem hj, List.getElem?_eq_getElem (less.trans hj)] at same
  simp only [Option.map_some, Option.some.injEq] at same
  have self (w : Word) : webDist w w = 0 := by simp [webDist]
  have li := (wf.records _ (List.getElem_mem (less.trans hj))).length
  have lj := (wf.records _ (List.getElem_mem hj)).length
  have := h.apart wf (x := t.records[i].head) (List.getElem?_eq_getElem (less.trans hj)) (List.getElem?_eq_getElem hj)
    (by rw [self]) (by rw [self]; omega) (by rw [same, self]) (by rw [same, self]; omega)
  omega

/-- Settles O56: `State.Sound` is kept by each effect that a step can have, and so is the order of the records while
distances are exact, from which the heads differ and the panels are apart. -/
theorem stepKeepsTableCutterEvents : Obligations.StepKeepsTableCutterEvents := by
  intro s t wf ht
  have sound : t.Sound := State.Sound.step ⟨wf.table, wf.cutter, wf.events⟩ ht
  refine ⟨sound.table, sound.cutter, sound.events, fun exact_ ordered => ?_⟩
  obtain ⟨u, v, before, effect, after⟩ := step_becomes ht
  have orderedAfter : t.table.Ordered := by
    rw [after.table]
    refine effect.ordered (before.table ▸ wf.table) ?_ (before.table ▸ ordered)
    unfold State.Exact
    rw [before.table, before.w]
    exact exact_
  exact ⟨orderedAfter, orderedAfter.heads_nodup sound.table,
    fun i j r q x hi hj h0 h1 h2 h3 => orderedAfter.apart sound.table hi hj h0 h1 h2 h3⟩

end Sys2Proof.Machine
end

section
/-! PROOF. The parameters in their ranges, and the needle records consistent with them (R111, R132, R165, R166). -/

namespace Sys2Proof.Machine

variable {s : State}

/-! ### Parameters -/

theorem PerBar.forall_get_set {α : Type} {P : Bar → α → Prop} {p : PerBar α} (h : ∀ c, P c (p.get c)) {b : Bar} {v : α}
    (hv : P b v) (c : Bar) : P c ((p.set b v).get c) := by
  rw [PerBar.get_set]
  split
  · subst c
    exact hv
  · exact h c

theorem within_iff {lo hi v : Int} : within lo hi v = true ↔ lo ≤ v ∧ v ≤ hi := by simp [within]

/-- A value that the range and the cross-checks allow keeps the parameters as they should be (R166, R168). -/
theorem Params.Wf.store (wf : s.params.Wf) {id : ParamId} {v : Int} (h : s.valueAllowed id v = true) :
    (s.params.store id v).Wf := by
  obtain ⟨o1, o2, o3, o4, o5⟩ := wf.offsets
  obtain ⟨l1, l2, l3⟩ := wf.stitchLengths
  cases id <;> simp only [State.valueAllowed, within_iff, Bool.and_eq_true, decide_eq_true_eq] at h
  case offB => exact { wf with offsets := by dsimp only [Params.store]; omega }
  case offC => exact { wf with offsets := by dsimp only [Params.store]; omega }
  case offK => exact { wf with offsets := by dsimp only [Params.store]; omega }
  case skew b => exact { wf with skew := PerBar.forall_get_set (P := fun _ x => x ≤ 39) wf.skew (by omega) }
  case missLimit => exact { wf with missLimit := by dsimp only [Params.store]; omega }
  case breakLimit => exact { wf with breakLimit := by dsimp only [Params.store]; omega }
  case xMin b =>
    exact { wf with xMin := PerBar.forall_get_set (P := fun _ x => -4000 ≤ x ∧ x ≤ 0) wf.xMin h.1 }
  case xMax b =>
    exact { wf with xMax := PerBar.forall_get_set (P := fun _ x => 0 ≤ x ∧ x ≤ 4000) wf.xMax h.1 }
  case stepMax b =>
    exact { wf with stepMax := PerBar.forall_get_set (P := fun _ x => 1 ≤ x ∧ x ≤ 255) wf.stepMax (by omega) }
  case threadFactor b =>
    exact { wf with
      threadFactor := PerBar.forall_get_set (P := fun _ x => 1 ≤ x ∧ x ≤ 255) wf.threadFactor (by omega) }
  case slMin => exact { wf with stitchLengths := by dsimp only [Params.store]; omega }
  case slMax => exact { wf with stitchLengths := by dsimp only [Params.store]; omega }
  case probation => exact { wf with probation := by dsimp only [Params.store]; omega }
  case retryGap => exact { wf with retryGap := by dsimp only [Params.store]; omega }
  case retries => exact { wf with retries := by dsimp only [Params.store]; omega }
  case threadReserve => exact { wf with threadReserve := by dsimp only [Params.store]; omega }
  case tailTie => exact { wf with tailTie := by dsimp only [Params.store]; omega }
  case cutWindow => exact { wf with cutWindow := by dsimp only [Params.store]; omega }
  case starveDist => exact { wf with starveDist := by dsimp only [Params.store]; omega }
  case roomMark => exact { wf with roomMark := by dsimp only [Params.store]; omega }
  case linkCheck => exact { wf with }
  case linkPolicy => exact { wf with }

theorem Params.default_wf : Params.default.Wf := by
  constructor
  case skew | xMin | xMax | stepMax | threadFactor =>
    intro b
    cases b <;> decide
  all_goals decide

/-! ### One needle record -/

section

variable {p : Params} {r : NeedleRecord}

theorem NeedleRecord.reset_wf (hp : p.Wf) : NeedleRecord.reset.Wf p := by
  have := hp.missLimit
  have := hp.breakLimit
  constructor <;> simp [NeedleRecord.reset] <;> omega

/-- A record is read only with the two limits (R111). -/
theorem NeedleRecord.Wf.of_limits {q : Params} (h : r.Wf p) (misses : q.missLimit = p.missLimit)
    (breaks : q.breakLimit = p.breakLimit) : r.Wf q :=
  ⟨misses ▸ h.misses, breaks ▸ h.breaks, breaks ▸ h.inUse, h.threadOut, h.noThread, h.thread, h.progress, h.noProbation,
    h.countdown, h.retries⟩

theorem NeedleRecord.Wf.lowerCountdown (h : r.Wf p) : r.lowerCountdown.Wf p := by
  unfold NeedleRecord.lowerCountdown
  split
  · rename_i c broken counting
    have below := h.countdown c counting
    have inUse := h.inUse
    have retries := h.retries
    split_ifs with last
    · exact { h with
        inUse := fun _ => inUse (by simp [broken])
        threadOut := by simp
        noThread := fun none => by simpa [broken] using h.noThread none
        progress := by simp
        noProbation := by simp
        countdown := by simp
        retries := by dsimp only; omega }
    · refine { h with countdown := ?_ }
      rintro _ ⟨⟩
      exact ⟨broken, by omega, by omega⟩
  · exact h

theorem NeedleRecord.Wf.breakNeedle (hp : p.Wf) (h : r.Wf p) (ready : r.state = .ready) :
    (breakNeedle p r).record.Wf p := by
  have inUse := h.inUse (by simp [ready])
  have threaded : r.thread ≠ 0 := fun none => by simpa [ready] using h.noThread none
  have progress := h.noProbation (by simp [ready])
  have idle : r.countdown = none := Option.eq_none_iff_forall_ne_some.mpr fun c hc => by
    simpa [ready] using (h.countdown c hc).1
  have misses := hp.missLimit
  have gap := hp.retryGap
  unfold Sys2Proof.Machine.breakNeedle
  split
  · constructor <;> simp [idle, progress, h.thread, h.retries, threaded] <;> omega
  · constructor <;> simp [progress, h.thread, hp.retries, threaded]
    all_goals omega

theorem NeedleRecord.Wf.scanNeedle (hp : p.Wf) (h : r.Wf p) (motion : Bool) : (scanNeedle p motion r).record.Wf p := by
  have misses := hp.missLimit
  have probation := hp.probation
  have gap := hp.retryGap
  unfold Sys2Proof.Machine.scanNeedle
  split
  · rename_i ready
    unfold scanReady
    split_ifs with moves limit
    · exact { h with misses := by simp [ScanFinding.quiet]; omega }
    · exact h.breakNeedle hp ready
    · exact { h with misses := by simp [ScanFinding.quiet]; omega }
  · rename_i proving
    have inUse := h.inUse (by simp [proving])
    have threaded : r.thread ≠ 0 := fun none => by simpa [proving] using h.noThread none
    have idle : r.countdown = none := Option.eq_none_iff_forall_ne_some.mpr fun c hc => by
      simpa [proving] using (h.countdown c hc).1
    unfold scanProbation
    split
    · split
      · constructor <;> simp [idle, h.thread, h.retries, h.breaks, inUse, threaded]
        omega
      · exact { h with
          progress := by simp [ScanFinding.quiet]; omega
          noProbation := fun other => absurd proving other }
    · constructor <;> simp [h.misses, h.thread, h.retries, h.breaks, inUse, threaded]
      omega
  · exact h

theorem NeedleRecord.Wf.exhaust (hp : p.Wf) (h : r.Wf p) : r.exhaust.Wf p := by
  have misses := hp.missLimit
  unfold NeedleRecord.exhaust
  split_ifs with retired
  · exact { h with
      threadOut := fun _ => rfl
      noThread := fun _ => .inr retired
      thread := Nat.zero_le _ }
  · have inUse := h.inUse retired
    constructor <;> simp [h.breaks, inUse, h.retries]
    omega

theorem NeedleRecord.Wf.warnLow (h : r.Wf p) (reserve : Nat) (out : Bool) : (warnLow reserve r out).record.Wf p := by
  unfold Sys2Proof.Machine.warnLow
  split
  · exact { h with }
  · exact h

theorem NeedleRecord.Wf.drawThread (hp : p.Wf) (h : r.Wf p) (reserve c : Nat) :
    (drawThread reserve c r).record.Wf p := by
  unfold Sys2Proof.Machine.drawThread
  split_ifs with empty left
  · exact h
  · have drawn : NeedleRecord.Wf p { r with thread := r.thread - c } := { h with
      threadOut := fun out => absurd (h.threadOut out) empty
      noThread := fun none => by dsimp only at none; omega
      thread := (Nat.sub_le _ _).trans h.thread }
    exact drawn.warnLow _ _
  · exact (h.exhaust hp).warnLow _ _

theorem NeedleRecord.Wf.load (hp : p.Wf) (h : r.Wf p) {len : Nat} (hlen : 1 ≤ len ∧ len ≤ 2000000000) :
    (r.load len).Wf p := by
  have misses := hp.missLimit
  unfold NeedleRecord.load
  split_ifs with out
  · have inUse := h.inUse (by simp [out])
    have idle : r.countdown = none := Option.eq_none_iff_forall_ne_some.mpr fun c hc => by
      simpa [out] using (h.countdown c hc).1
    constructor <;> simp [h.breaks, inUse, h.retries, idle] <;> omega
  · exact { h with
      threadOut := fun other => absurd other out
      noThread := fun none => by dsimp only at none; omega
      thread := hlen.2 }

theorem NeedleRecord.Wf.rearm (hp : p.Wf) (h : r.Wf p) (unfit : r.state = .broken ∨ r.state = .probation) :
    NeedleRecord.Wf p { r with state := .probation, progress := 0, retries := p.retries, countdown := none } := by
  have inUse := h.inUse (by rcases unfit with e | e <;> simp [e])
  have threaded : r.thread ≠ 0 := fun none => by rcases unfit with e | e <;> simpa [e] using h.noThread none
  constructor <;> simp [h.breaks, h.misses, inUse, h.thread, hp.retries, threaded]

theorem NeedleRecord.Wf.restore (hp : p.Wf) (h : r.Wf p) : NeedleRecord.Wf p { r with
    state := if 0 < r.thread then .ready else .threadOut
    breaks := 0
    misses := 0
    progress := 0
    retries := 0
    countdown := none } := by
  have misses := hp.missLimit
  have breaks := hp.breakLimit
  constructor <;> simp [h.thread]
  all_goals omega

theorem NeedleRecord.Wf.retire (hp : p.Wf) (h : r.Wf p) :
    NeedleRecord.Wf p { r with state := .retired, countdown := none, misses := 0, progress := 0 } := by
  have misses := hp.missLimit
  constructor <;> simp [h.thread, h.breaks, h.retries]
  omega

/-- With its counts at 0 a record is as it should be under any limits (R132). -/
theorem NeedleRecord.Wf.zeroCounts {q : Params} (hq : q.Wf) (h : r.Wf p) : r.zeroCounts.Wf q := by
  have misses := hq.missLimit
  have breaks := hq.breakLimit
  exact { h with
    misses := by simp [NeedleRecord.zeroCounts]; omega
    breaks := by simp [NeedleRecord.zeroCounts]
    inUse := fun _ => by simp [NeedleRecord.zeroCounts]; omega }

end

/-! ### All needles -/

/-- The parameters and the needle records are as the rules say they always are. -/
structure State.Threaded (s : State) : Prop where
  params : s.params.Wf
  needles : ∀ b n, (s.needle b n).Wf s.params

theorem State.Threaded.of_eq {t : State} (h : s.Threaded) (params : t.params = s.params)
    (needles : t.needles = s.needles) : t.Threaded := by
  refine ⟨params ▸ h.params, fun b n => ?_⟩
  rw [State.needle, needles, params]
  exact h.needles b n

theorem State.Threaded.setNeedle (h : s.Threaded) {b : Bar} {n : NeedleNo} {r : NeedleRecord} (hr : r.Wf s.params) :
    (s.setNeedle b n r).Threaded := by
  refine ⟨h.params, fun c m => ?_⟩
  rw [State.needle_setNeedle]
  split
  · exact hr
  · exact h.needles c m

theorem State.Threaded.mapNeedles (h : s.Threaded) {b : Bar} {f : NeedleRecord → NeedleRecord}
    (hf : ∀ r : NeedleRecord, r.Wf s.params → (f r).Wf s.params) : (s.mapNeedles b f).Threaded := by
  refine ⟨h.params, fun c m => ?_⟩
  rw [State.needle_mapNeedles]
  split
  · exact hf _ (h.needles c m)
  · exact h.needles c m

theorem State.Threaded.sendMonitorNotice (h : s.Threaded) (b : Bar) (panel : Option Word) (k : DefectKind) :
    (s.sendMonitorNotice b panel k).Threaded :=
  h.of_eq (by simp) (by simp)

theorem State.Threaded.takeConsumption (h : s.Threaded) (n : ConsumptionNotice) : (s.takeConsumption n).Threaded := by
  have drawn (c : Nat) (ns : List NeedleNo) (a : State × Bool) (ha : a.1.Threaded) :
      (ns.foldl (drawNeedle n.bar c) a).1.Threaded := by
    induction ns generalizing a with
    | nil => exact ha
    | cons m ns ih =>
      have written := ha.setNeedle (b := n.bar) (n := m) ((ha.needles n.bar m).drawThread ha.params a.1.params.threadReserve c)
      exact ih _ (written.of_eq (by simp [drawNeedle]) (by simp [drawNeedle]))
  unfold State.takeConsumption
  dsimp only
  split
  · exact (drawn _ _ (s, false) h).sendMonitorNotice _ _ _
  · exact drawn _ _ (s, false) h

theorem State.Threaded.takeScanRequest (h : s.Threaded) (r : ScanRequest) : (s.takeScanRequest r).Threaded := by
  have begun : ((s.overtakeScan r.bar).setScan r.bar (.scanning ⟨r.expected, r.panel⟩)).Threaded :=
    h.of_eq (by simp) (by simp)
  unfold State.takeScanRequest
  dsimp only
  split
  · exact begun.mapNeedles fun _ hr => hr.lowerCountdown
  · exact begun

theorem State.Threaded.takeScanData (h : s.Threaded) (b : Bar) (channels : NeedleSet) :
    (s.takeScanData b channels).Threaded := by
  have evaluated (ns : List NeedleNo) (a : State × Bool) (ha : a.1.Threaded) :
      (ns.foldl (evaluateNeedle b channels) a).1.Threaded := by
    induction ns generalizing a with
    | nil => exact ha
    | cons m ns ih =>
      have written := ha.setNeedle (b := b) (n := m) ((ha.needles b m).scanNeedle ha.params
        (channels.getLsbD (channelOf (a.1.params.skew.get b) m)))
      exact ih _ (written.of_eq (by simp [evaluateNeedle, State.applyFinding])
        (by simp [evaluateNeedle, State.applyFinding]))
  have ended : (s.setScan b .atRest).Threaded := h.of_eq rfl rfl
  unfold State.takeScanData
  dsimp only
  split
  · unfold State.evaluateScan
    dsimp only
    split
    · exact (evaluated _ (_, false) ended).sendMonitorNotice _ _ _
    · exact evaluated _ (_, false) ended
  · exact ended

theorem State.Threaded.deliver (h : s.Threaded) (m : Message) : (s.deliver m).Threaded := by
  cases m with
  | status m => exact h.of_eq rfl rfl
  | notice n => exact h.of_eq (by simp [State.deliver]) (by simp [State.deliver])
  | consumption n => exact h.takeConsumption n
  | scan r => exact h.takeScanRequest r

theorem State.Threaded.flush (h : s.Threaded) (b : Bar) : (s.flush b).Threaded :=
  State.flush_induction h b (fun _ _ _ hu => hu.of_eq rfl rfl) fun _ m hu => hu.deliver m

/-- A write of a parameter; one of MISS_LIMIT or BREAK_LIMIT zeroes the counts (R132, R166). -/
theorem State.Threaded.writeParam (h : s.Threaded) {id : ParamId} {v : Int} (hv : s.valueAllowed id v = true) :
    (s.writeParam id v).Threaded := by
  have params := h.params.store hv
  have zeroed (limits : ∀ b n, (s.needle b n).zeroCounts.Wf (s.params.store id v)) : (Bar.all.foldl
      (fun (t : State) b => t.mapNeedles b NeedleRecord.zeroCounts) { s with params := s.params.store id v }).Threaded := by
    refine ⟨params, fun b n => ?_⟩
    have key : (Bar.all.foldl (fun (t : State) b => t.mapNeedles b NeedleRecord.zeroCounts)
        { s with params := s.params.store id v }).needle b n = (s.needle b n).zeroCounts := by
      cases b <;> simp [Bar.all, State.needle_mapNeedles] <;> rfl
    rw [key]
    exact limits b n
  have stored (misses : (s.params.store id v).missLimit = s.params.missLimit)
      (breaks : (s.params.store id v).breakLimit = s.params.breakLimit) :
      State.Threaded { s with params := s.params.store id v } :=
    ⟨params, fun b n => (h.needles b n).of_limits misses breaks⟩
  unfold State.writeParam
  cases id
  case missLimit => exact zeroed fun b n => (h.needles b n).zeroCounts params
  case breakLimit => exact zeroed fun b n => (h.needles b n).zeroCounts params
  case starveDist => exact (stored rfl rfl).of_eq rfl rfl
  all_goals exact stored rfl rfl

theorem State.Threaded.owned {t : State} (h : s.Threaded) (ht : s.Owned t) : t.Threaded := by
  cases ht with
  | rearmed b n unfit => exact h.setNeedle ((h.needles b n).rearm h.params unfit)
  | restored b n => exact h.setNeedle ((h.needles b n).restore h.params)
  | retired b n => exact h.setNeedle ((h.needles b n).retire h.params)
  | loaded b n len hlen => exact h.setNeedle ((h.needles b n).load h.params hlen)
  | loadedAll b len hlen => exact h.mapNeedles fun _ hr => hr.load h.params hlen
  | written_param id v hv => exact h.writeParam hv
  | _ => exact h.of_eq (by simp) (by simp)

theorem State.Threaded.effect {t : State} (h : s.Threaded) (ht : s.Effect t) : t.Threaded := by
  cases ht with
  | started cause =>
    refine ⟨Params.default_wf, fun b n => ?_⟩
    have fresh : (s.startOperation cause).needle b n = .reset := by
      simp [State.needle, State.startOperation, State.reset]
    rw [fresh]
    exact NeedleRecord.reset_wf Params.default_wf
  | delivered m => exact h.deliver m
  | scanned b channels => exact h.takeScanData b channels
  | stroked b => exact (h.flush b).of_eq (by simp) (by simp)
  | answered owned => exact h.owned owned
  | dropped => exact h.of_eq rfl rfl
  | _ => exact h.of_eq (by simp) (by simp)

/-- Settles O57: `State.Threaded` is kept by each effect that a step can have. -/
theorem stepKeepsParametersNeedles : Obligations.StepKeepsParametersNeedles := by
  intro s t wf ht
  obtain ⟨u, v, before, effect, after⟩ := step_becomes ht
  have start : s.Threaded := ⟨wf.params, wf.needles⟩
  have kept := ((start.of_eq before.params before.needles).effect effect).of_eq after.params after.needles
  exact ⟨kept.params, kept.needles⟩

end Sys2Proof.Machine
end

section
/-! PROOF. The pattern store's operations: what is read after each write, what the counts of a path, of a bar and of a
record come to, and what each leaves unchanged (chapter 2, R17, R35, R36). -/

namespace Sys2Proof.Machine

/-! ### Reading after a write -/

theorem getElem_set_fin {α : Type} {n : Nat} (v : Vector α n) (i j : Fin n) (x : α) :
    (v.set i x)[j] = if j = i then x else v[j] := by
  simp only [Fin.getElem_fin, Vector.getElem_set, Fin.ext_iff, eq_comm]

section

variable (st : Store)

theorem Store.patterns_setPattern (p q : PatternId) (r : PatternRecord) :
    (st.setPattern p r).patterns[q] = if q = p then r else st.patterns[q] :=
  getElem_set_fin _ _ _ _

@[simp] theorem Store.entries_setPattern (p : PatternId) (r : PatternRecord) :
    (st.setPattern p r).entries = st.entries := rfl

@[simp] theorem Store.owner_setPattern (p : PatternId) (r : PatternRecord) :
    (st.setPattern p r).owner = st.owner := rfl

@[simp] theorem Store.sets_setPattern (p : PatternId) (r : PatternRecord) :
    (st.setPattern p r).sets = st.sets := rfl

theorem Store.owner_setOwner (g h : PageNo) (o : Option PatternId) :
    (st.setOwner g o).owner[h] = if h = g then o else st.owner[h] :=
  getElem_set_fin _ _ _ _

@[simp] theorem Store.entries_setOwner (g : PageNo) (o : Option PatternId) :
    (st.setOwner g o).entries = st.entries := rfl

@[simp] theorem Store.patterns_setOwner (g : PageNo) (o : Option PatternId) :
    (st.setOwner g o).patterns = st.patterns := rfl

@[simp] theorem Store.sets_setOwner (g : PageNo) (o : Option PatternId) :
    (st.setOwner g o).sets = st.sets := rfl

/-- Two stores with the same entry space read the same entries. -/
theorem Store.entry_of_entries {st' : Store} (h : st'.entries = st.entries) : st'.entry = st.entry := by
  funext a
  rw [Store.entry, h]
  rfl

theorem Store.entry_write (a z : Place2) (e : SegEntry) :
    (st.write a e).entry z = if z = a then e else st.entry z := by
  obtain ⟨g, i⟩ := a
  obtain ⟨h, k⟩ := z
  simp only [Store.entry, Store.write, getElem_set_fin, Prod.mk.injEq]
  by_cases hg : h = g
  · subst h
    simp only [if_true, getElem_set_fin, true_and]
  · simp only [hg, false_and, if_false]

/-- A run of entries writes entries alone. -/
theorem Store.writeRun_frame (g : PageNo) (i : EntryNo) (es : List SegEntry) :
    ∃ entries, st.writeRun g i es = { st with entries := entries } := by
  induction es generalizing st i with
  | nil => exact ⟨_, rfl⟩
  | cons e es ih => exact ih (st.write (g, i) e) (nextIndex i)

/-- A run of entries writes to one page alone. -/
theorem Store.entry_writeRun_of_ne {g h : PageNo} (hg : h ≠ g) (i k : EntryNo) (es : List SegEntry) :
    (st.writeRun g i es).entry (h, k) = st.entry (h, k) := by
  induction es generalizing st i with
  | nil => rfl
  | cons e es ih =>
    rw [Store.writeRun, ih, Store.entry_write, if_neg]
    exact fun same => hg (congrArg Prod.fst same)

/-- What stands in the store after a run of entries is written: an entry of the run, or what stood there. -/
theorem Store.entry_writeRun (g : PageNo) (i : EntryNo) (es : List SegEntry) (z : Place2) :
    (st.writeRun g i es).entry z ∈ es ∨ (st.writeRun g i es).entry z = st.entry z := by
  induction es generalizing st i with
  | nil => exact .inr rfl
  | cons e es ih =>
    rcases ih (st.write (g, i) e) (nextIndex i) with among | same
    · exact .inl (List.mem_cons_of_mem _ among)
    · rw [Store.writeRun, same, Store.entry_write]
      split
      · exact .inl List.mem_cons_self
      · exact .inr rfl

/-! ### Pages freed -/

/-- A page erased and freed. -/
def Store.freePage (st : Store) (g : PageNo) : Store :=
  { st with entries := st.entries.set g Store.blankPage, owner := st.owner.set g none }

theorem Store.freePages_eq (p : PatternId) :
    st.freePages p = allPages.foldl (fun st g => if st.owner[g] = some p then st.freePage g else st) st := rfl

theorem Store.owner_freePage (g h : PageNo) : (st.freePage g).owner[h] = if h = g then none else st.owner[h] :=
  getElem_set_fin _ _ _ _

theorem Store.entries_freePage (g h : PageNo) :
    (st.freePage g).entries[h] = if h = g then Store.blankPage else st.entries[h] :=
  getElem_set_fin _ _ _ _

/-- Of a list of pages those of a pattern are erased and freed, any other page is left (R31). -/
theorem Store.freed_page (p : PatternId) (g : PageNo) (gs : List PageNo) :
    let out := gs.foldl (fun (st : Store) g => if st.owner[g] = some p then st.freePage g else st) st
    out.owner[g] = (if g ∈ gs ∧ st.owner[g] = some p then none else st.owner[g])
      ∧ out.entries[g] = if g ∈ gs ∧ st.owner[g] = some p then Store.blankPage else st.entries[g] := by
  induction gs generalizing st with
  | nil => exact ⟨by simp, by simp⟩
  | cons h gs ih =>
    dsimp only at ih ⊢
    rw [List.foldl_cons]
    split
    · rename_i mine
      rw [(ih _).1, (ih _).2, Store.owner_freePage, Store.entries_freePage]
      by_cases same : g = h
      · subst same
        simp only [if_true, reduceCtorEq, and_false, if_false, List.mem_cons, true_or, mine, and_self]
      · simp only [if_false, List.mem_cons, same, false_or, and_self]
    · rename_i other
      rw [(ih _).1, (ih _).2]
      by_cases same : g = h
      · subst same
        simp only [other, and_false, if_false, and_self]
      · simp only [List.mem_cons, same, false_or, and_self]

/-- A page of a pattern is erased and freed, any other page is left (R31). -/
theorem Store.freePages_page (p : PatternId) (g : PageNo) :
    (st.freePages p).owner[g] = (if st.owner[g] = some p then none else st.owner[g])
      ∧ (st.freePages p).entries[g] = if st.owner[g] = some p then Store.blankPage else st.entries[g] := by
  have all : g ∈ allPages := List.mem_finRange g
  have freed := st.freed_page p g allPages
  simp only [all, true_and] at freed
  exact freed

/-- Freeing pages changes neither patterns nor sets. -/
theorem Store.freePages_frame (p : PatternId) :
    (st.freePages p).patterns = st.patterns ∧ (st.freePages p).sets = st.sets := by
  unfold Store.freePages
  refine List.foldlRecOn (motive := fun st' : Store => st'.patterns = st.patterns ∧ st'.sets = st.sets) _ _ ⟨rfl, rfl⟩
    fun st' h g _ => ?_
  split
  · exact h
  · exact h

end

/-! ### Counts -/

/-- A store before and after a function is applied to its counts: to each use count and each reference count as often as
it is referred to. -/
structure Store.Recounted (st st' : Store) (f : Nat → Nat) (uses : PatternId → Nat) (refs : SetNo → Nat) : Prop where
  entries : st'.entries = st.entries
  owner : st'.owner = st.owner
  patterns : ∀ m : PatternId, st'.patterns[m] = { st.patterns[m] with useCount := f^[uses m] st.patterns[m].useCount }
  sets : ∀ n : SetNo, st'.sets[n] = { st.sets[n] with refCount := f^[refs n] st.sets[n].refCount }

variable {st : Store} {f : Nat → Nat}

theorem Store.Recounted.refl (st : Store) : st.Recounted st f (fun _ => 0) (fun _ => 0) :=
  ⟨rfl, rfl, fun _ => rfl, fun _ => rfl⟩

theorem Store.Recounted.trans {st' st'' : Store} {uses uses' : PatternId → Nat} {refs refs' : SetNo → Nat}
    (h : st.Recounted st' f uses refs) (h' : st'.Recounted st'' f uses' refs') :
    st.Recounted st'' f (fun m => uses m + uses' m) (fun n => refs n + refs' n) := by
  refine ⟨h'.entries.trans h.entries, h'.owner.trans h.owner, fun m => ?_, fun n => ?_⟩
  · rw [h'.patterns, h.patterns, add_comm, Function.iterate_add_apply]
  · rw [h'.sets, h.sets, add_comm, Function.iterate_add_apply]

theorem Store.changeUse_recounted (p : PatternId) :
    st.Recounted (st.changeUse p f) f (fun m => if p = m then 1 else 0) (fun _ => 0) := by
  refine ⟨rfl, rfl, fun m => ?_, fun _ => rfl⟩
  simp only [Store.changeUse, getElem_set_fin]
  by_cases h : p = m
  · subst h
    simp
  · simp [h, Ne.symm h]

theorem Store.changeRef_recounted (n : SetNo) :
    st.Recounted (st.changeRef n f) f (fun _ => 0) (fun k => if k ≠ 0 ∧ n = k then 1 else 0) := by
  by_cases zero : n = 0
  · subst zero
    have none (k : SetNo) : ¬ (k ≠ 0 ∧ 0 = k) := fun h => h.1 h.2.symm
    simpa only [Store.changeRef, if_pos, none, if_false] using Store.Recounted.refl st
  · refine ⟨by simp [Store.changeRef, zero], by simp [Store.changeRef, zero], fun m => by simp [Store.changeRef, zero],
      fun k => ?_⟩
    simp only [Store.changeRef, if_neg zero, getElem_set_fin]
    by_cases h : n = k
    · subst h
      simp [zero]
    · simp [h, Ne.symm h]

/-- Two ways of counting references that agree. -/
theorem Store.Recounted.congr {st' : Store} {uses uses' : PatternId → Nat} {refs refs' : SetNo → Nat}
    (h : st.Recounted st' f uses refs) (hu : ∀ m, uses m = uses' m) (hr : ∀ n, refs n = refs' n) :
    st.Recounted st' f uses' refs' := by
  rwa [← funext hu, ← funext hr]

/-! #### Of a record -/

/-- How many bars of a record refer to a pattern (R36). -/
def PanelRecord.uses (r : PanelRecord) (m : PatternId) : Nat := Bar.all.countP (fun b => (r.bars.get b).pattern = some m)

/-- How many bars of a record refer to a width set; set 0 is not counted (R17, R36). -/
def PanelRecord.refs (r : PanelRecord) (n : SetNo) : Nat :=
  if n = 0 then 0 else Bar.all.countP (fun b => (r.bars.get b).widthSet = some n)

theorem Store.changeBar_recounted (b : PanelBar) : st.Recounted (st.changeBar f b) f
    (fun m => if b.pattern = some m then 1 else 0) (fun n => if n ≠ 0 ∧ b.widthSet = some n then 1 else 0) := by
  have pattern : st.Recounted (match b.pattern with
      | some p => st.changeUse p f
      | none => st) f (fun m => if b.pattern = some m then 1 else 0) (fun _ => 0) := by
    rcases b.pattern with - | p
    · exact (Store.Recounted.refl st).congr (fun _ => rfl) fun _ => rfl
    · exact (Store.changeUse_recounted p).congr (fun m => by simp) fun _ => rfl
  unfold Store.changeBar
  rcases b.widthSet with - | n
  · exact pattern.congr (fun _ => rfl) fun n => by simp
  · exact (pattern.trans (Store.changeRef_recounted n)).congr (fun m => rfl) fun k => by simp

/-- Each bar of a record counts once on its pattern and once on its width set 1..63 (R35). -/
theorem Store.changeBars_recounted (r : PanelRecord) (bs : List Bar) :
    st.Recounted (bs.foldl (fun st b => st.changeBar f (r.bars.get b)) st) f
      (fun m => bs.countP (fun b => (r.bars.get b).pattern = some m))
      (fun n => if n = 0 then 0 else bs.countP (fun b => (r.bars.get b).widthSet = some n)) := by
  induction bs generalizing st with
  | nil => exact (Store.Recounted.refl st).congr (fun _ => rfl) fun n => by simp
  | cons b bs ih =>
    refine ((Store.changeBar_recounted (r.bars.get b)).trans ih).congr (fun m => ?_) fun n => ?_
    · simp [List.countP_cons, add_comm]
    · by_cases zero : n = 0
      · simp [zero]
      · simp [zero, List.countP_cons, add_comm]

theorem Store.addRecord_recounted (st : Store) (r : PanelRecord) :
    st.Recounted (st.addRecord r) (· + 1) r.uses r.refs :=
  Store.changeBars_recounted r Bar.all

theorem Store.releaseRecord_recounted (st : Store) (r : PanelRecord) :
    st.Recounted (st.releaseRecord r) (· - 1) r.uses r.refs :=
  Store.changeBars_recounted r Bar.all

/-! #### Of a path -/

theorem Store.countEntry_recounted (a : Place2) :
    st.Recounted (st.countEntry f a) f (st.callsOn [a]) (st.namesOn [a]) := by
  unfold Store.countEntry
  cases h : st.entry a with
  | call m n =>
    refine (Store.changeUse_recounted m).congr (fun m' => ?_) fun n' => ?_
    · simp [Store.callsOn, h, List.countP_cons]
    · simp [Store.namesOn, h]
  | line set dy dx =>
    refine (Store.changeRef_recounted set).congr (fun m' => ?_) fun n' => ?_
    · simp [Store.callsOn, h]
    · by_cases zero : n' = 0 <;> simp [Store.namesOn, h, List.countP_cons, zero]
  | lock set n x =>
    refine (Store.changeRef_recounted set).congr (fun m' => ?_) fun n' => ?_
    · simp [Store.callsOn, h]
    · by_cases zero : n' = 0 <;> simp [Store.namesOn, h, List.countP_cons, zero]
  | empty | fin | link g =>
    refine (Store.Recounted.refl st).congr (fun m' => ?_) fun n' => ?_
    · simp [Store.callsOn, h]
    · simp [Store.namesOn, h]

theorem Store.callsOn_cons (a : Place2) (path : List Place2) (m : PatternId) :
    st.callsOn (a :: path) m = st.callsOn [a] m + st.callsOn path m := by
  rw [← List.singleton_append, Store.callsOn, List.countP_append]
  rfl

theorem Store.namesOn_cons (a : Place2) (path : List Place2) (n : SetNo) :
    st.namesOn (a :: path) n = st.namesOn [a] n + st.namesOn path n := by
  unfold Store.namesOn
  split
  · rfl
  · rw [← List.singleton_append, List.countP_append]

/-- What a path holds of calls and names is read from its entries alone. -/
theorem Store.callsOn_congr {st' : Store} {path : List Place2} (h : ∀ a ∈ path, st'.entry a = st.entry a)
    (m : PatternId) : st'.callsOn path m = st.callsOn path m :=
  List.countP_congr fun a ha => by rw [h a ha]

theorem Store.namesOn_congr {st' : Store} {path : List Place2} (h : ∀ a ∈ path, st'.entry a = st.entry a) (n : SetNo) :
    st'.namesOn path n = st.namesOn path n := by
  unfold Store.namesOn
  split
  · rfl
  · exact List.countP_congr fun a ha => by rw [h a ha]

/-- Each entry of a path counts once, a CALL on its motif and a LINE or LOCK on its set (R28). -/
theorem Store.countPath_recounted (path : List Place2) :
    st.Recounted (st.countPath f path) f (st.callsOn path) (st.namesOn path) := by
  induction path generalizing st with
  | nil => exact (Store.Recounted.refl st).congr (fun _ => rfl) fun n => by simp [Store.namesOn]
  | cons a path ih =>
    have head := Store.countEntry_recounted (st := st) (f := f) a
    have same := st.entry_of_entries head.entries
    refine (head.trans ih).congr (fun m => ?_) fun n => ?_
    · rw [Store.callsOn_cons a path, Store.callsOn_congr fun z _ => congrFun same z]
    · rw [Store.namesOn_cons a path, Store.namesOn_congr fun z _ => congrFun same z]

/-! #### Up and down -/

theorem iterate_succ (k n : Nat) : (fun x : Nat => x + 1)^[k] n = n + k := by
  induction k generalizing n with
  | zero => rfl
  | succ k ih =>
    rw [Function.iterate_succ_apply, ih]
    omega

theorem iterate_pred (k n : Nat) : (fun x : Nat => x - 1)^[k] n = n - k := by
  induction k generalizing n with
  | zero => rfl
  | succ k ih =>
    rw [Function.iterate_succ_apply, ih]
    omega

theorem Store.ext_get {st st' : Store} (entries : st'.entries = st.entries) (owner : st'.owner = st.owner)
    (patterns : ∀ p : PatternId, st'.patterns[p] = st.patterns[p]) (sets : ∀ n : SetNo, st'.sets[n] = st.sets[n]) :
    st' = st := by
  obtain ⟨e, o, ps, ns⟩ := st
  obtain ⟨e', o', ps', ns'⟩ := st'
  obtain rfl : e' = e := entries
  obtain rfl : o' = o := owner
  obtain rfl : ps' = ps := Vector.ext fun i h => patterns ⟨i, h⟩
  obtain rfl : ns' = ns := Vector.ext fun i h => sets ⟨i, h⟩
  rfl

end Sys2Proof.Machine
end

section
/-! PROOF. The closing walk: what it follows and how it ends, and what of the store it reads (R27, R29). -/

namespace Sys2Proof.Machine

variable {st : Store} {p : PatternId} {fuel : Nat} {visited : List Place2} {here next : Place2}

/-! ### One step of the walk -/

/-- Off the places visited the walk goes where the path leads (R27). -/
theorem Store.walk_of_follows (fresh : here ∉ visited) (h : st.Follows p here next) :
    st.walk p (fuel + 1) visited here = st.walk p fuel (here :: visited) next := by
  rw [Store.walk, if_neg fresh]
  unfold Store.Follows at h
  split at h <;> rename_i entry
  · rw [entry, h]
    rfl
  · rw [entry, h]
    rfl
  · obtain ⟨other, closed, rfl⟩ := h
    rw [entry]
    exact if_pos ⟨other, closed⟩
  · obtain ⟨mine, rfl⟩ := h
    rw [entry]
    exact if_pos mine
  · exact h.elim
  · exact h.elim

/-- Off the places visited the walk goes on where the path leads, ends at an END, or fails (R27). -/
theorem Store.walk_fresh_cases (fresh : here ∉ visited) :
    (∃ next, st.Follows p here next ∧ st.walk p (fuel + 1) visited here = st.walk p fuel (here :: visited) next)
    ∨ (st.entry here = .fin ∧ st.walk p (fuel + 1) visited here = .closed false (here :: visited).reverse)
    ∨ (st.entry here = .empty ∧ st.walk p (fuel + 1) visited here = .failed .badEntry here)
    ∨ (∃ m n, st.entry here = .call m n ∧ (m = p ∨ st.patterns[m].state ≠ .closed)
        ∧ st.walk p (fuel + 1) visited here = .failed .badCall here)
    ∨ ∃ g, st.entry here = .link g ∧ st.owner[g] ≠ some p
        ∧ st.walk p (fuel + 1) visited here = .failed .badLink here := by
  have goes (next : Place2) (h : st.Follows p here next) := Store.walk_of_follows (fuel := fuel) fresh h
  cases entry : st.entry here with
  | line set dy dx =>
    have follows : st.Follows p here (here.1, here.2 + 1) := by simp [Store.Follows, entry]
    exact .inl ⟨_, follows, goes _ follows⟩
  | lock set n x =>
    have follows : st.Follows p here (here.1, here.2 + 1) := by simp [Store.Follows, entry]
    exact .inl ⟨_, follows, goes _ follows⟩
  | call m n =>
    by_cases good : m ≠ p ∧ st.patterns[m].state = .closed
    · have follows : st.Follows p here (here.1, here.2 + 1) := by
        rw [Store.Follows, entry]
        exact ⟨good.1, good.2, rfl⟩
      exact .inl ⟨_, follows, goes _ follows⟩
    · refine .inr (.inr (.inr (.inl ⟨m, n, rfl, ?_, ?_⟩)))
      · rwa [not_and_or, not_not] at good
      · rw [Store.walk, if_neg fresh, entry]
        exact if_neg good
  | fin => exact .inr (.inl ⟨rfl, by rw [Store.walk, if_neg fresh, entry]⟩)
  | empty => exact .inr (.inr (.inl ⟨rfl, by rw [Store.walk, if_neg fresh, entry]⟩))
  | link g =>
    by_cases good : st.owner[g] = some p
    · have follows : st.Follows p here (g, 0) := by
        rw [Store.Follows, entry]
        exact ⟨good, rfl⟩
      exact .inl ⟨_, follows, goes _ follows⟩
    · refine .inr (.inr (.inr (.inr ⟨g, rfl, good, ?_⟩)))
      rw [Store.walk, if_neg fresh, entry]
      exact if_neg good

/-! ### What the walk follows -/

/-- The walk so far: the places visited, latest first, and the place it stands on form the path from entry 0 of the home
page on, and no place was visited twice. -/
structure Store.Trail (st : Store) (p : PatternId) (home : PageNo) (visited : List Place2) (here : Place2) : Prop where
  first : (here :: visited).getLast? = some (home, 0)
  chain : (here :: visited).IsChain (fun b a => st.Follows p a b)
  nodup : visited.Nodup
  followed : ∀ a ∈ visited, ∃ b, st.Follows p a b

/-- A path of the walk: from entry 0 of the home page on, without a repeat. -/
def Store.IsWalk (st : Store) (p : PatternId) (home : PageNo) (path : List Place2) : Prop :=
  path.head? = some (home, 0) ∧ path.Nodup ∧ path.IsChain (st.Follows p)

/-- How the closing walk ends, by its outcome (R27, R29). -/
def Store.Judges (st : Store) (p : PatternId) (home : PageNo) : Walked → Prop
  | .closed false path => st.IsWalk p home path ∧ ∃ a, path.getLast? = some a ∧ st.entry a = .fin
  | .closed true path => st.IsWalk p home path ∧ ∃ pre a loop z, path = pre ++ a :: loop ∧ path.getLast? = some z
      ∧ st.Follows p z a ∧ ∃ q ∈ a :: loop, (st.entry q).sews = true
  | .failed .badEntry a => (∃ path, st.IsWalk p home path ∧ path.getLast? = some a) ∧ st.entry a = .empty
  | .failed .badCall a => (∃ path, st.IsWalk p home path ∧ path.getLast? = some a)
      ∧ ∃ m r, st.entry a = .call m r ∧ (m = p ∨ st.patterns[m].state ≠ .closed)
  | .failed .badLink a => (∃ path, st.IsWalk p home path ∧ path.getLast? = some a)
      ∧ ∃ g, st.entry a = .link g ∧ st.owner[g] ≠ some p
  | .failed .badLoop a => ∃ path pre loop z, st.IsWalk p home path ∧ path = pre ++ a :: loop ∧ path.getLast? = some z
      ∧ st.Follows p z a ∧ ∀ q ∈ a :: loop, ∃ g, st.entry q = .link g
  | .failed _ _ => False

variable {home : PageNo}

/-- The places visited and a fresh place the walk stands on, in the order walked. -/
theorem Store.Trail.walked (t : st.Trail p home visited here) (fresh : here ∉ visited) :
    st.IsWalk p home (here :: visited).reverse ∧ (here :: visited).reverse.getLast? = some here := by
  refine ⟨⟨?_, List.nodup_reverse.mpr (List.nodup_cons.mpr ⟨fresh, t.nodup⟩), List.isChain_reverse.mpr t.chain⟩, ?_⟩
  · rw [List.head?_reverse, t.first]
  · simp

/-- A step along the path. -/
theorem Store.Trail.step (t : st.Trail p home visited here) (fresh : here ∉ visited) (h : st.Follows p here next) :
    st.Trail p home (here :: visited) next := by
  refine ⟨?_, List.isChain_cons_cons.mpr ⟨h, t.chain⟩, List.nodup_cons.mpr ⟨fresh, t.nodup⟩, ?_⟩
  · rw [List.getLast?_cons_cons, t.first]
  · rintro a (- | ⟨_, ha⟩)
    · exact ⟨next, h⟩
    · exact t.followed a ha

/-- A list is what comes before the first of its members that is a given one, that member, and what follows. -/
theorem eq_takeWhile_ne_append {α : Type} [DecidableEq α] {a : α} {l : List α} (h : a ∈ l) :
    ∃ rest, l = l.takeWhile (· ≠ a) ++ a :: rest := by
  induction l with
  | nil => cases h
  | cons z l ih =>
    by_cases same : z = a
    · exact ⟨l, by simp [same]⟩
    · obtain ⟨rest, split⟩ := ih ((List.mem_cons.mp h).resolve_left (Ne.symm same))
      refine ⟨rest, ?_⟩
      rw [List.takeWhile_cons_of_pos (by simpa using same), List.cons_append, ← split]

/-- Back at a place visited, the path closes a loop, of the places from there on. -/
theorem Store.Trail.loop (t : st.Trail p home visited here) (back : here ∈ visited) :
    st.IsWalk p home visited.reverse ∧ ∃ pre z, visited.reverse = pre ++ here :: (visited.takeWhile (· ≠ here)).reverse
      ∧ visited.reverse.getLast? = some z ∧ st.Follows p z here := by
  obtain ⟨z, before, rfl⟩ := List.exists_cons_of_ne_nil (List.ne_nil_of_mem back)
  obtain ⟨last, chain⟩ := List.isChain_cons_cons.mp t.chain
  refine ⟨⟨?_, List.nodup_reverse.mpr t.nodup, List.isChain_reverse.mpr chain⟩, ?_⟩
  · rw [List.head?_reverse, ← t.first, List.getLast?_cons_cons]
  · obtain ⟨rest, split⟩ := eq_takeWhile_ne_append back
    refine ⟨rest.reverse, z, ?_, by simp, last⟩
    conv_lhs => rw [split]
    simp

/-- The walk ends as its outcome says. -/
theorem Store.walk_judges (t : st.Trail p home visited here) (left : visited.length + fuel = 1025) :
    st.Judges p home (st.walk p fuel visited here) := by
  induction fuel generalizing visited here with
  | zero =>
    have most : visited.length ≤ 1024 := by simpa using t.nodup.length_le_card
    omega
  | succ fuel ih =>
    by_cases back : here ∈ visited
    · obtain ⟨walked, pre, z, split, last, follows⟩ := t.loop back
      rw [Store.walk, if_pos back]
      split
      · rename_i sews
        obtain ⟨q, hq, sewn⟩ := List.any_eq_true.mp sews
        exact ⟨walked, pre, here, _, z, split, last, follows, q, by simpa using hq, sewn⟩
      · rename_i quiet
        refine ⟨_, pre, _, z, walked, split, last, follows, fun q hq => ?_⟩
        have member : q ∈ here :: visited.takeWhile (· ≠ here) := by simpa using hq
        have seen : q ∈ visited := by
          rcases List.mem_cons.mp member with rfl | h
          · exact back
          · exact (List.takeWhile_prefix _).mem h
        have unsewn : (st.entry q).sews = false := by
          by_contra sewn
          exact quiet (List.any_eq_true.mpr ⟨q, member, by simpa using sewn⟩)
        obtain ⟨b, follows⟩ := t.followed q seen
        unfold Store.Follows at follows
        cases entry : st.entry q <;> simp [entry, SegEntry.sews] at unsewn follows
        exact ⟨_, rfl⟩
    · obtain ⟨walked, last⟩ := t.walked back
      rcases Store.walk_fresh_cases (st := st) (p := p) (fuel := fuel) back with
        ⟨next, follows, goes⟩ | ⟨entry, ends⟩ | ⟨entry, ends⟩ | ⟨m, n, entry, bad, ends⟩ | ⟨g, entry, bad, ends⟩
      · rw [goes]
        exact ih (t.step back follows) (by simp; omega)
      · rw [ends]
        exact ⟨walked, here, last, entry⟩
      · rw [ends]
        exact ⟨⟨_, walked, last⟩, entry⟩
      · rw [ends]
        exact ⟨⟨_, walked, last⟩, m, n, entry, bad⟩
      · rw [ends]
        exact ⟨⟨_, walked, last⟩, g, entry, bad⟩

/-- Settles O27: from the empty trail on, by `Store.walk_judges`. -/
theorem closingWalkFollowsPath : Obligations.ClosingWalkFollowsPath := by
  intro st p home walked endsAt
  have judged : st.Judges p home (st.closingWalk p home) :=
    Store.walk_judges ⟨rfl, List.isChain_singleton _, List.nodup_nil, by simp⟩ rfl
  cases h : st.closingWalk p home with
  | closed endless path =>
    rw [h] at judged
    cases endless <;> exact judged
  | failed status a =>
    rw [h] at judged
    cases status <;> exact judged

/-! ### Walks that succeed -/

variable {endless : Bool} {path : List Place2}

/-- How a walk that succeeds goes on from a fresh place. -/
theorem Store.walk_closed_cases (h : st.walk p (fuel + 1) visited here = .closed endless path) (fresh : here ∉ visited) :
    (∃ next, st.Follows p here next ∧ st.walk p fuel (here :: visited) next = .closed endless path)
    ∨ (st.entry here = .fin ∧ endless = false ∧ path = (here :: visited).reverse) := by
  rcases Store.walk_fresh_cases (st := st) (p := p) (fuel := fuel) fresh with
    ⟨next, follows, goes⟩ | ⟨entry, ends⟩ | ⟨entry, ends⟩ | ⟨m, n, entry, bad, ends⟩ | ⟨g, entry, bad, ends⟩
  · exact .inl ⟨next, follows, goes ▸ h⟩
  · cases ends.symm.trans h
    exact .inr ⟨entry, rfl, rfl⟩
  · cases ends.symm.trans h
  · cases ends.symm.trans h
  · cases ends.symm.trans h

/-- Back at a place visited a walk that succeeds is endless, and its path is what was visited (R29). -/
theorem Store.walk_closed_back (h : st.walk p (fuel + 1) visited here = .closed endless path) (back : here ∈ visited) :
    (here :: visited.takeWhile (· ≠ here)).any (fun q => (st.entry q).sews) = true ∧ endless = true
      ∧ path = visited.reverse := by
  rw [Store.walk, if_pos back] at h
  split at h
  · cases h
    exact ⟨‹_›, rfl, rfl⟩
  · cases h

/-- The places on a walked path: what holds of the places before, and is handed on along the path, holds of each; and
each is an END or leads on. -/
theorem Store.walk_closed_forall {P : Place2 → Prop} (h : st.walk p fuel visited here = .closed endless path)
    (hv : ∀ a ∈ visited, P a ∧ (st.entry a = .fin ∨ ∃ b, st.Follows p a b)) (hh : P here)
    (hands : ∀ a b, P a → st.Follows p a b → P b) :
    ∀ a ∈ path, P a ∧ (st.entry a = .fin ∨ ∃ b, st.Follows p a b) := by
  induction fuel generalizing visited here with
  | zero => cases h
  | succ fuel ih =>
    by_cases back : here ∈ visited
    · obtain ⟨-, -, rfl⟩ := Store.walk_closed_back h back
      exact fun a ha => hv a (List.mem_reverse.mp ha)
    · rcases Store.walk_closed_cases h back with ⟨next, follows, goes⟩ | ⟨entry, -, rfl⟩
      · refine ih goes ?_ (hands here next hh follows)
        rintro a (- | ⟨_, ha⟩)
        · exact ⟨hh, .inr ⟨next, follows⟩⟩
        · exact hv a ha
      · intro a ha
        rcases List.mem_cons.mp (List.mem_reverse.mp ha) with rfl | ha
        · exact ⟨hh, .inl entry⟩
        · exact hv a ha

/-- What was visited is on the path. -/
theorem Store.mem_of_walk_closed (h : st.walk p fuel visited here = .closed endless path) {a : Place2}
    (ha : a ∈ visited) : a ∈ path := by
  induction fuel generalizing visited here with
  | zero => cases h
  | succ fuel ih =>
    by_cases back : here ∈ visited
    · obtain ⟨-, -, rfl⟩ := Store.walk_closed_back h back
      exact List.mem_reverse.mpr ha
    · rcases Store.walk_closed_cases h back with ⟨next, -, goes⟩ | ⟨-, -, rfl⟩
      · exact ih goes (List.mem_cons_of_mem _ ha)
      · exact List.mem_reverse.mpr (List.mem_cons_of_mem _ ha)

/-- A store in which a walked path stands as it stood: its entries, the motifs it calls still CLOSED, the pages it goes
to still the pattern's. -/
structure Store.Stands (st st' : Store) (p : PatternId) (path : List Place2) : Prop where
  entries : ∀ a ∈ path, st'.entry a = st.entry a
  calls : ∀ a ∈ path, ∀ m n, st.entry a = .call m n → st'.patterns[m].state = .closed
  links : ∀ a ∈ path, ∀ g, st.entry a = .link g → st'.owner[g] = some p

theorem Store.Stands.follows {st' : Store} (s : st.Stands st' p path) (on : here ∈ path) (h : st.Follows p here next) :
    st'.Follows p here next := by
  unfold Store.Follows at h ⊢
  rw [s.entries here on]
  split at h <;> rename_i entry
  · exact h
  · exact h
  · exact ⟨h.1, s.calls here on _ _ entry, h.2.2⟩
  · exact ⟨s.links here on _ entry, h.2⟩
  · exact h
  · exact h

/-- The walk of a path that stands goes as it went (R30). -/
theorem Store.Stands.walk {st' : Store} (s : st.Stands st' p path)
    (h : st.walk p fuel visited here = .closed endless path) : st'.walk p fuel visited here = .closed endless path := by
  induction fuel generalizing visited here with
  | zero => cases h
  | succ fuel ih =>
    by_cases back : here ∈ visited
    · obtain ⟨sews, rfl, rfl⟩ := Store.walk_closed_back h back
      rw [Store.walk, if_pos back, if_pos]
      obtain ⟨q, hq, sewn⟩ := List.any_eq_true.mp sews
      have on : q ∈ visited.reverse := by
        rw [List.mem_reverse]
        rcases List.mem_cons.mp hq with rfl | hq
        · exact back
        · exact (List.takeWhile_prefix _).mem hq
      exact List.any_eq_true.mpr ⟨q, hq, by rw [s.entries q on, sewn]⟩
    · rcases Store.walk_closed_cases h back with ⟨next, follows, goes⟩ | ⟨entry, rfl, rfl⟩
      · rw [Store.walk_of_follows back (s.follows (Store.mem_of_walk_closed goes List.mem_cons_self) follows)]
        exact ih goes
      · rw [Store.walk, if_neg back, s.entries here (by simp), entry]

/-- A closing walk that succeeded stays on the pages of its pattern, and every place on its path is an END or leads on. -/
theorem Store.closingWalk_places (h : st.closingWalk p home = .closed endless path) (mine : st.owner[home] = some p) :
    ∀ a ∈ path, st.owner[a.1] = some p ∧ (st.entry a = .fin ∨ ∃ b, st.Follows p a b) := by
  refine Store.walk_closed_forall (P := fun a => st.owner[a.1] = some p) h (by simp) mine fun a b ha follows => ?_
  unfold Store.Follows at follows
  split at follows
  · rw [follows]
    exact ha
  · rw [follows]
    exact ha
  · rw [follows.2.2]
    exact ha
  · rw [follows.2]
    exact follows.1
  · exact follows.elim
  · exact follows.elim

/-- A motif called on a walked path is CLOSED and another than the pattern, and a page gone to is the pattern's. -/
theorem Store.closingWalk_refers (h : st.closingWalk p home = .closed endless path) (mine : st.owner[home] = some p) :
    (∀ a ∈ path, ∀ m n, st.entry a = .call m n → m ≠ p ∧ st.patterns[m].state = .closed)
      ∧ ∀ a ∈ path, ∀ g, st.entry a = .link g → st.owner[g] = some p := by
  have leads {a : Place2} (ha : a ∈ path) (entry : st.entry a ≠ .fin) : ∃ b, st.Follows p a b :=
    (Store.closingWalk_places h mine a ha).2.resolve_left entry
  refine ⟨fun a ha m n entry => ?_, fun a ha g entry => ?_⟩
  · obtain ⟨b, follows⟩ := leads ha (by simp [entry])
    rw [Store.Follows, entry] at follows
    exact ⟨follows.1, follows.2.1⟩
  · obtain ⟨b, follows⟩ := leads ha (by simp [entry])
    rw [Store.Follows, entry] at follows
    exact follows.1

end Sys2Proof.Machine
end

section
/-! PROOF. The pattern store and its counts: every count the number of references that the live records and the walked
paths hold, and every walked path standing as its closing found it (R16, R17, R20, R21, R23, R30, R36). -/

namespace Sys2Proof.Machine

variable {st st' : Store} {p : PatternId}

/-! ### Walked paths -/

theorem Store.pathOf_of_closed {home : PageNo} {endless : Bool} {path : List Place2}
    (closed : st.patterns[p].state = .closed) (hh : st.patterns[p].home = some home)
    (hw : st.closingWalk p home = .closed endless path) : st.pathOf p = path := by
  simp only [Store.pathOf, closed, hh, hw]

theorem Store.pathOf_of_not_closed (h : st.patterns[p].state ≠ .closed) : st.pathOf p = [] := by
  unfold Store.pathOf
  split
  · exact absurd ‹_› h
  · rfl

/-- The walk reads the entries, the owners and the states of the patterns alone. -/
theorem Store.walk_congr (entries : st'.entries = st.entries) (owner : st'.owner = st.owner)
    (states : ∀ m : PatternId, st'.patterns[m].state = st.patterns[m].state) (fuel : Nat) (visited : List Place2)
    (here : Place2) : st'.walk p fuel visited here = st.walk p fuel visited here := by
  have entry := st.entry_of_entries entries
  induction fuel generalizing visited here with
  | zero => rfl
  | succ fuel ih => simp only [Store.walk, entry, owner, states, ih]

/-- A store that differs in its counts and needle sets alone. -/
structure Store.SameWalks (st st' : Store) : Prop where
  entries : st'.entries = st.entries
  owner : st'.owner = st.owner
  patterns : ∀ m : PatternId, st'.patterns[m] = { st.patterns[m] with useCount := st'.patterns[m].useCount }

theorem Store.Recounted.sameWalks {f : Nat → Nat} {uses : PatternId → Nat} {refs : SetNo → Nat}
    (h : st.Recounted st' f uses refs) : st.SameWalks st' :=
  ⟨h.entries, h.owner, fun m => by rw [h.patterns]⟩

theorem Store.SameWalks.state (h : st.SameWalks st') (m : PatternId) :
    st'.patterns[m].state = st.patterns[m].state ∧ st'.patterns[m].home = st.patterns[m].home := by
  rw [h.patterns]
  exact ⟨rfl, rfl⟩

theorem Store.SameWalks.closingWalk (h : st.SameWalks st') (p : PatternId) (home : PageNo) :
    st'.closingWalk p home = st.closingWalk p home :=
  Store.walk_congr h.entries h.owner (fun m => (h.state m).1) _ _ _

theorem Store.SameWalks.pathOf (h : st.SameWalks st') (p : PatternId) : st'.pathOf p = st.pathOf p := by
  unfold Store.pathOf
  rw [(h.state p).1, (h.state p).2]
  simp only [h.closingWalk]

/-! ### Sums over the patterns -/

theorem sum_finRange (f : PatternId → Nat) : ((List.finRange 32).map f).sum = ∑ q, f q := by
  rw [← List.ofFn_eq_map, List.sum_ofFn]

/-- Two sums over the patterns that differ in one term. -/
theorem sum_finRange_but {f f' : PatternId → Nat} (p : PatternId) (h : ∀ q, q ≠ p → f' q = f q) :
    ((List.finRange 32).map f').sum + f p = ((List.finRange 32).map f).sum + f' p := by
  have others : ∑ q ∈ Finset.univ.erase p, f' q = ∑ q ∈ Finset.univ.erase p, f q :=
    Finset.sum_congr rfl fun q hq => h q (Finset.ne_of_mem_erase hq)
  rw [sum_finRange, sum_finRange, ← Finset.add_sum_erase _ f (Finset.mem_univ p),
    ← Finset.add_sum_erase _ f' (Finset.mem_univ p), others]
  omega

theorem le_sum_finRange (f : PatternId → Nat) (p : PatternId) : f p ≤ ((List.finRange 32).map f).sum := by
  rw [sum_finRange]
  exact Finset.single_le_sum (fun _ _ => Nat.zero_le _) (Finset.mem_univ p)

/-! ### Counts -/

variable {records records' : List PanelRecord}

/-- How often live records refer to a pattern and to a width set (R36). -/
def usesIn (records : List PanelRecord) (m : PatternId) : Nat := (records.map (·.uses m)).sum

def refsIn (records : List PanelRecord) (n : SetNo) : Nat := (records.map (·.refs n)).sum

theorem PanelRecord.refs_of_ne (r : PanelRecord) {n : SetNo} (hn : n ≠ 0) :
    r.refs n = Bar.all.countP (fun b => (r.bars.get b).widthSet = some n) := if_neg hn

theorem Store.Counted.use (h : st.Counted records) (m : PatternId) : st.patterns[m].useCount
    = usesIn records m + ((List.finRange 32).map (fun p => st.callsOn (st.pathOf p) m)).sum := h.uses m

theorem Store.Counted.ref (h : st.Counted records) {n : SetNo} (hn : n ≠ 0) : st.sets[n].refCount
    = refsIn records n + ((List.finRange 32).map (fun p => st.namesOn (st.pathOf p) n)).sum := by
  rw [h.refs n hn, refsIn]
  simp only [PanelRecord.refs_of_ne _ hn]

/-- The counts in the terms of `usesIn` and `refsIn`. -/
theorem Store.Counted.of_counts
    (walks : ∀ p : PatternId, st.patterns[p].state = .closed → ∃ home path, st.patterns[p].home = some home
      ∧ st.closingWalk p home = .closed st.patterns[p].endless path)
    (uses : ∀ m : PatternId, st.patterns[m].useCount
      = usesIn records m + ((List.finRange 32).map (fun p => st.callsOn (st.pathOf p) m)).sum)
    (refs : ∀ n : SetNo, n ≠ 0 → st.sets[n].refCount
      = refsIn records n + ((List.finRange 32).map (fun p => st.namesOn (st.pathOf p) n)).sum) : st.Counted records := by
  refine ⟨walks, uses, fun n hn => (refs n hn).trans ?_⟩
  rw [refsIn]
  simp only [PanelRecord.refs_of_ne _ hn]

/-- The records are referred to through their plans alone. -/
theorem usesIn_of_plans (h : records'.map PanelRecord.plan = records.map PanelRecord.plan) (m : PatternId) :
    usesIn records' m = usesIn records m := by
  have key (r : PanelRecord) : r.uses m = Bar.all.countP (fun b => (r.plan.2.2.2.get b).1 = some m) := by
    simp [PanelRecord.plan, PanelRecord.uses]
  have sum (rs : List PanelRecord) : usesIn rs m
      = ((rs.map PanelRecord.plan).map (fun q => Bar.all.countP (fun b => (q.2.2.2.get b).1 = some m))).sum := by
    rw [usesIn, List.map_map]
    exact congrArg List.sum (List.map_congr_left fun r _ => key r)
  rw [sum, sum, h]

theorem refsIn_of_plans (h : records'.map PanelRecord.plan = records.map PanelRecord.plan) (n : SetNo) :
    refsIn records' n = refsIn records n := by
  have key (r : PanelRecord) :
      r.refs n = if n = 0 then 0 else Bar.all.countP (fun b => (r.plan.2.2.2.get b).2 = some n) := by
    simp [PanelRecord.plan, PanelRecord.refs]
  have sum (rs : List PanelRecord) : refsIn rs n = ((rs.map PanelRecord.plan).map
      (fun q => if n = 0 then 0 else Bar.all.countP (fun b => (q.2.2.2.get b).2 = some n))).sum := by
    rw [refsIn, List.map_map]
    exact congrArg List.sum (List.map_congr_left fun r _ => key r)
  rw [sum, sum, h]

/-- The walks as they were, and the counts moved as the references of the live records did. -/
theorem Store.Counted.of_sameWalks (h : st.Counted records) (same : st.SameWalks st')
    (uses : ∀ m : PatternId, st'.patterns[m].useCount + usesIn records m = st.patterns[m].useCount + usesIn records' m)
    (refs : ∀ n : SetNo, n ≠ 0 → st'.sets[n].refCount + refsIn records n = st.sets[n].refCount + refsIn records' n) :
    st'.Counted records' := by
  have entry := st.entry_of_entries same.entries
  refine .of_counts (fun p closed => ?_) (fun m => ?_) fun n hn => ?_
  · rw [same.patterns] at closed ⊢
    obtain ⟨home, path, hh, hw⟩ := h.walks p closed
    exact ⟨home, path, hh, (same.closingWalk p home).trans hw⟩
  · have := h.use m
    have := uses m
    simp only [same.pathOf, Store.callsOn_congr (st := st) (st' := st') fun a _ => congrFun entry a]
    omega
  · have := h.ref hn
    have := refs n hn
    simp only [same.pathOf, Store.namesOn_congr (st := st) (st' := st') fun a _ => congrFun entry a]
    omega

/-- A change of the store around one pattern: every other pattern's record but for its use count, its pages and what they
hold stay; and if the pattern is CLOSED it is not used. -/
structure Store.Around (st st' : Store) (p : PatternId) : Prop where
  others : ∀ q : PatternId, q ≠ p → st'.patterns[q] = { st.patterns[q] with useCount := st'.patterns[q].useCount }
  owner : ∀ (g : PageNo) (q : PatternId), q ≠ p → (st'.owner[g] = some q ↔ st.owner[g] = some q)
  pages : ∀ (g : PageNo) (q : PatternId), q ≠ p → st.owner[g] = some q →
    ∀ i : EntryNo, st'.entry (g, i) = st.entry (g, i)
  unused : st.patterns[p].state = .closed → st.patterns[p].useCount = 0

/-- A pattern that is not used is called on no walked path (R36). -/
theorem Store.Counted.not_called (h : st.Counted records) (unused : st.patterns[p].useCount = 0) {q : PatternId}
    {a : Place2} (ha : a ∈ st.pathOf q) (n : Nat) : st.entry a ≠ .call p n := by
  intro entry
  have total := h.use p
  have term := le_sum_finRange (fun q => st.callsOn (st.pathOf q) p) q
  have none : st.callsOn (st.pathOf q) p = 0 := by
    omega
  have := List.countP_eq_zero.mp none a ha
  simp [entry] at this

/-- A walked path of another pattern stands. -/
theorem Store.Around.stands (ar : st.Around st' p) (wf : st.Wf) (h : st.Counted records) {q : PatternId} (hq : q ≠ p)
    (closed : st.patterns[q].state = .closed) : ∃ home path, st.patterns[q].home = some home
      ∧ st.closingWalk q home = .closed st.patterns[q].endless path ∧ st.pathOf q = path ∧ st.Stands st' q path := by
  obtain ⟨home, path, hh, hw⟩ := h.walks q closed
  have paths := Store.pathOf_of_closed closed hh hw
  have mine : st.owner[home] = some q := by
    obtain ⟨home', hh', owned⟩ := wf.homed q (closed.trans_ne (by decide))
    cases hh.symm.trans hh'
    exact owned
  obtain ⟨calls, links⟩ := Store.closingWalk_refers hw mine
  refine ⟨home, path, hh, hw, paths, fun a ha => ?_, fun a ha m n entry => ?_, fun a ha g entry => ?_⟩
  · exact ar.pages a.1 q hq (Store.closingWalk_places hw mine a ha).1 a.2
  · obtain ⟨-, called⟩ := calls a ha m n entry
    have other : m ≠ p := by
      rintro rfl
      exact h.not_called (ar.unused called) (paths ▸ ha) n entry
    rw [ar.others m other]
    exact called
  · exact (ar.owner g q hq).mpr (links a ha g entry)

theorem Store.Around.pathOf (ar : st.Around st' p) (wf : st.Wf) (h : st.Counted records) {q : PatternId} (hq : q ≠ p) :
    st'.pathOf q = st.pathOf q ∧ ∀ a ∈ st.pathOf q, st'.entry a = st.entry a := by
  have same := ar.others q hq
  by_cases closed : st.patterns[q].state = .closed
  · obtain ⟨home, path, hh, hw, paths, stands⟩ := ar.stands wf h hq closed
    rw [paths]
    refine ⟨Store.pathOf_of_closed ?_ ?_ (stands.walk hw), stands.entries⟩
    · rw [same]
      exact closed
    · rw [same]
      exact hh
  · rw [Store.pathOf_of_not_closed closed, Store.pathOf_of_not_closed (by rw [same]; exact closed)]
    simp

/-! ### The counts of a path taken back -/

/-- The counts of a pattern's own path taken back, which a pattern that is not CLOSED has none of (R30). -/
theorem Store.Counted.takenBack (h : st.Counted records) (p : PatternId) : st.Recounted
    (if st.patterns[p].state = .closed then st.takeBack p else st) (· - 1) (st.callsOn (st.pathOf p))
    (st.namesOn (st.pathOf p)) := by
  split
  · rename_i closed
    obtain ⟨home, path, hh, hw⟩ := h.walks p closed
    rw [Store.pathOf_of_closed closed hh hw, Store.takeBack, hh]
    dsimp only
    rw [hw]
    exact Store.countPath_recounted path
  · rename_i other
    rw [Store.pathOf_of_not_closed other]
    exact (Store.Recounted.refl st).congr (fun _ => rfl) fun n => by simp [Store.namesOn]

/-- No more is taken back than was counted. -/
theorem Store.Counted.path_le (h : st.Counted records) (p : PatternId) :
    (∀ m : PatternId, st.callsOn (st.pathOf p) m ≤ st.patterns[m].useCount)
      ∧ ∀ n : SetNo, st.namesOn (st.pathOf p) n ≤ st.sets[n].refCount := by
  refine ⟨fun m => ?_, fun n => ?_⟩
  · have := h.use m
    have := le_sum_finRange (fun q => st.callsOn (st.pathOf q) m) p
    omega
  · by_cases hn : n = 0
    · simp [Store.namesOn, hn]
    · have := h.ref hn
      have := le_sum_finRange (fun q => st.namesOn (st.pathOf q) n) p
      omega

/-! ### The store as it should be -/

/-- Counts moved keep the store as it should be, when those of patterns that are not CLOSED and of set 0 stay 0. -/
theorem Store.Wf.recounted (wf : st.Wf) {f : Nat → Nat} {uses : PatternId → Nat} {refs : SetNo → Nat}
    (h : st.Recounted st' f uses refs)
    (unused : ∀ m : PatternId, st.patterns[m].state ≠ .closed → f^[uses m] 0 = 0) (zero : refs 0 = 0) : st'.Wf := by
  have entry := st.entry_of_entries h.entries
  have state (m : PatternId) : st'.patterns[m].state = st.patterns[m].state := by rw [h.patterns]
  refine ⟨fun g i => entry ▸ wf.entries g i, fun g i free => ?_, fun q empty => ?_, fun q used => ?_, fun q opened => ?_, ?_⟩
  · rw [entry]
    exact wf.free g i (h.owner ▸ free)
  · rw [state] at empty
    obtain ⟨blank, pages⟩ := wf.empty q empty
    refine ⟨?_, fun g => h.owner ▸ pages g⟩
    have count := unused q (empty.trans_ne (by decide))
    rw [h.patterns, blank]
    simp [PatternRecord.blank, count]
  · rw [state] at used
    obtain ⟨home, hh, owned⟩ := wf.homed q used
    exact ⟨home, by rw [h.patterns, hh], h.owner ▸ owned⟩
  · rw [state] at opened
    obtain ⟨endless, count⟩ := wf.opened q opened
    rw [h.patterns]
    exact ⟨endless, by rw [count]; exact unused q (opened.trans_ne (by decide))⟩
  · rw [h.sets, zero, wf.setZero]
    rfl

/-- Counts that only go down. -/
theorem Store.Wf.uncounted (wf : st.Wf) {uses : PatternId → Nat} {refs : SetNo → Nat}
    (h : st.Recounted st' (· - 1) uses refs) (zero : refs 0 = 0) : st'.Wf :=
  wf.recounted h (fun _ _ => by rw [iterate_pred]; omega) zero

/-- A change around one pattern keeps the store as it should be, when the pattern itself, the entries and the free pages
are. -/
theorem Store.Wf.around (wf : st.Wf) (ar : st.Around st' p)
    (counts : ∀ q : PatternId, q ≠ p → st.patterns[q].state ≠ .closed → st'.patterns[q].useCount = st.patterns[q].useCount)
    (entries : ∀ (g : PageNo) (i : EntryNo), (st'.entry (g, i)).wf = true)
    (free : ∀ (g : PageNo) (i : EntryNo), st'.owner[g] = none → st'.entry (g, i) = .empty)
    (own : st'.patterns[p] = .blank ∧ (∀ g : PageNo, st'.owner[g] ≠ some p)
      ∨ st'.patterns[p].state ≠ .empty ∧ (∃ h, st'.patterns[p].home = some h ∧ st'.owner[h] = some p)
        ∧ (st'.patterns[p].state = .opened → st'.patterns[p].endless = false ∧ st'.patterns[p].useCount = 0))
    (zero : st'.sets[(0 : SetNo)] = ⟨0, 0⟩) : st'.Wf := by
  have same {q : PatternId} (hq : q ≠ p) (open_ : st.patterns[q].state ≠ .closed) : st'.patterns[q] = st.patterns[q] := by
    rw [ar.others q hq, counts q hq open_]
  have state {q : PatternId} (hq : q ≠ p) : st'.patterns[q].state = st.patterns[q].state := by rw [ar.others q hq]
  refine ⟨entries, free, fun q empty => ?_, fun q used => ?_, fun q opened => ?_, zero⟩
  · by_cases hq : q = p
    · subst hq
      exact own.resolve_right fun h => h.1 empty
    · rw [state hq] at empty
      obtain ⟨blank, pages⟩ := wf.empty q empty
      exact ⟨(same hq (empty.trans_ne (by decide))).trans blank, fun g h => pages g ((ar.owner g q hq).mp h)⟩
  · by_cases hq : q = p
    · subst hq
      rcases own with ⟨blank, -⟩ | ⟨-, homed, -⟩
      · rw [blank] at used
        exact absurd rfl used
      · exact homed
    · rw [state hq] at used
      obtain ⟨home, hh, owned⟩ := wf.homed q used
      refine ⟨home, ?_, (ar.owner home q hq).mpr owned⟩
      rw [ar.others q hq]
      exact hh
  · by_cases hq : q = p
    · subst hq
      rcases own with ⟨blank, -⟩ | ⟨-, -, unused⟩
      · rw [blank] at opened
        cases opened
      · exact unused opened
    · rw [state hq] at opened
      rw [same hq (opened.trans_ne (by decide))]
      exact wf.opened q opened

/-- The counts after a change around one pattern, which moved as the references on its own path did. -/
theorem Store.Counted.around (h : st.Counted records) (wf : st.Wf) (ar : st.Around st' p)
    (walks : st'.patterns[p].state = .closed → ∃ home path, st'.patterns[p].home = some home
      ∧ st'.closingWalk p home = .closed st'.patterns[p].endless path)
    (uses : ∀ m : PatternId, st'.patterns[m].useCount + st.callsOn (st.pathOf p) m
      = st.patterns[m].useCount + st'.callsOn (st'.pathOf p) m)
    (refs : ∀ n : SetNo, n ≠ 0 → st'.sets[n].refCount + st.namesOn (st.pathOf p) n
      = st.sets[n].refCount + st'.namesOn (st'.pathOf p) n) : st'.Counted records := by
  refine .of_counts (fun q closed => ?_) (fun m => ?_) fun n hn => ?_
  · by_cases hq : q = p
    · subst hq
      exact walks closed
    · rw [ar.others q hq] at closed ⊢
      obtain ⟨home, path, hh, hw, -, stands⟩ := ar.stands wf h hq closed
      exact ⟨home, path, hh, stands.walk hw⟩
  · have total := h.use m
    have moved := uses m
    have sums := sum_finRange_but (f := fun q => st.callsOn (st.pathOf q) m)
      (f' := fun q => st'.callsOn (st'.pathOf q) m) p fun q hq => by
        obtain ⟨paths, entries⟩ := ar.pathOf wf h hq
        rw [paths, Store.callsOn_congr entries]
    omega
  · have total := h.ref hn
    have moved := refs n hn
    have sums := sum_finRange_but (f := fun q => st.namesOn (st.pathOf q) n)
      (f' := fun q => st'.namesOn (st'.pathOf q) n) p fun q hq => by
        obtain ⟨paths, entries⟩ := ar.pathOf wf h hq
        rw [paths, Store.namesOn_congr entries]
    omega

/-- A pattern that is not CLOSED is not used (R20). -/
theorem Store.Wf.useCount_of_not_closed (wf : st.Wf) (h : st.patterns[p].state ≠ .closed) :
    st.patterns[p].useCount = 0 := by
  cases state : st.patterns[p].state with
  | empty => rw [(wf.empty p state).1]; rfl
  | opened => exact (wf.opened p state).2
  | closed => exact absurd state h

/-! ### What a request does to the store -/

/-- The store is as it should be, its counts those of the live records and the walked paths. -/
structure Store.Kept (st : Store) (records : List PanelRecord) : Prop where
  wf : st.Wf
  counted : st.Counted records

theorem Store.Kept.of_plans (h : st.Kept records) (plans : records'.map PanelRecord.plan = records.map PanelRecord.plan) :
    st.Kept records' :=
  ⟨h.wf, h.counted.of_sameWalks ⟨rfl, rfl, fun _ => rfl⟩ (fun m => by rw [usesIn_of_plans plans])
    fun n _ => by rw [refsIn_of_plans plans]⟩

theorem PanelRecord.refs_zero (r : PanelRecord) : r.refs 0 = 0 := rfl

/-- An admitted record refers to CLOSED patterns alone, and its references are added (R35, R43). -/
theorem Store.Kept.addRecord (h : st.Kept records) {r : PanelRecord}
    (closed : ∀ m : PatternId, 0 < r.uses m → st.patterns[m].state = .closed) :
    (st.addRecord r).Kept (records ++ [r]) := by
  have counts := st.addRecord_recounted r
  refine ⟨h.wf.recounted counts (fun m hm => ?_) r.refs_zero,
    h.counted.of_sameWalks counts.sameWalks (fun m => ?_) fun n _ => ?_⟩
  · have none : r.uses m = 0 := Nat.eq_zero_of_not_pos fun used => hm (closed m used)
    rw [none]
    rfl
  · rw [counts.patterns, iterate_succ, usesIn, usesIn, List.map_append, List.sum_append]
    simp
    omega
  · rw [counts.sets, iterate_succ, refsIn, refsIn, List.map_append, List.sum_append]
    simp
    omega

/-- A record that leaves the table takes its references with it (R35). -/
theorem Store.Kept.releaseRecord {pre post : List PanelRecord} {r : PanelRecord} (h : st.Kept (pre ++ r :: post)) :
    (st.releaseRecord r).Kept (pre ++ post) := by
  have counts := st.releaseRecord_recounted r
  refine ⟨h.wf.uncounted counts r.refs_zero, h.counted.of_sameWalks counts.sameWalks (fun m => ?_) fun n hn => ?_⟩
  · have := h.counted.use m
    rw [counts.patterns, iterate_pred]
    simp only [usesIn, List.map_append, List.map_cons, List.sum_append, List.sum_cons] at this ⊢
    omega
  · have := h.counted.ref hn
    rw [counts.sets, iterate_pred]
    simp only [refsIn, List.map_append, List.map_cons, List.sum_append, List.sum_cons] at this ⊢
    omega

theorem Store.Kept.releaseAll (h : st.Kept records) : (records.foldl Store.releaseRecord st).Kept [] := by
  induction records generalizing st with
  | nil => exact h
  | cons r rest ih => exact ih (Store.Kept.releaseRecord (pre := []) h)

/-- The members of a set 1..63 are counted nowhere (R18). -/
theorem Store.Kept.members (h : st.Kept records) {n : SetNo} (hn : n ≠ 0) (set : NeedleSet) :
    Store.Kept { st with sets := st.sets.set n ⟨set, st.sets[n].refCount⟩ } records := by
  refine ⟨⟨h.wf.entries, h.wf.free, h.wf.empty, h.wf.homed, h.wf.opened, ?_⟩,
    h.counted.of_sameWalks ⟨rfl, rfl, fun _ => rfl⟩ (fun _ => rfl) fun k _ => ?_⟩
  · dsimp only
    rw [getElem_set_fin, if_neg (Ne.symm hn)]
    exact h.wf.setZero
  · dsimp only
    rw [getElem_set_fin]
    split
    · rename_i same
      rw [same]
    · rfl

/-- The page a pattern takes is no other pattern's. -/
theorem Store.taken_iff {page : PageNo} (mine : st.owner[page] = none ∨ st.owner[page] = some p)
    (owner : ∀ g : PageNo, st'.owner[g] = if g = page then some p else st.owner[g]) (g : PageNo) (q : PatternId)
    (hq : q ≠ p) : (st'.owner[g] = some q ↔ st.owner[g] = some q) ∧ (st.owner[g] = some q → g ≠ page) := by
  have elsewhere (owned : st.owner[g] = some q) : g ≠ page := by
    rintro rfl
    rcases mine with none | some
    · cases none.symm.trans owned
    · exact hq (Option.some.inj (owned.symm.trans some))
  refine ⟨?_, elsewhere⟩
  rw [owner]
  split
  · rename_i same
    exact ⟨fun h => absurd (Option.some.inj h).symm hq, fun h => absurd same (elsewhere h)⟩
  · rfl

/-- A pattern that is CLOSED neither before nor after the change has no path. -/
theorem Store.Counted.around_open (h : st.Counted records) (wf : st.Wf) (ar : st.Around st' p)
    (before : st.patterns[p].state ≠ .closed) (after : st'.patterns[p].state ≠ .closed)
    (uses : ∀ m : PatternId, st'.patterns[m].useCount = st.patterns[m].useCount) (sets : st'.sets = st.sets) :
    st'.Counted records := by
  refine h.around wf ar (fun closed => absurd closed after) (fun m => ?_) fun n _ => ?_
  · rw [Store.pathOf_of_not_closed before, Store.pathOf_of_not_closed after, uses]
    rfl
  · rw [Store.pathOf_of_not_closed before, Store.pathOf_of_not_closed after, sets]
    rfl

/-- An EMPTY pattern opened on a free page (R22). -/
theorem Store.Kept.opened (h : st.Kept records) {page : PageNo} (empty : st.patterns[p].state = .empty)
    (free : st.owner[page] = none) : ((st.setPattern p { st.patterns[p] with state := .opened, home := some page }).setOwner
      page (some p)).Kept records := by
  obtain ⟨wf, counted⟩ := h
  obtain ⟨blank, -⟩ := wf.empty p empty
  obtain ⟨st', hst'⟩ : ∃ st', st' = (st.setPattern p
      { st.patterns[p] with state := .opened, home := some page }).setOwner page (some p) := ⟨_, rfl⟩
  rw [← hst']
  have patterns (q : PatternId) : st'.patterns[q] = if q = p then ⟨.opened, some page, false, 0⟩ else st.patterns[q] := by
    rw [hst', Store.patterns_setOwner, Store.patterns_setPattern, blank]
    rfl
  have owner (g : PageNo) : st'.owner[g] = if g = page then some p else st.owner[g] := by
    rw [hst', Store.owner_setOwner]
    rfl
  have entry : st'.entry = st.entry := by rw [hst']; rfl
  have sets : st'.sets = st.sets := by rw [hst']; rfl
  have taken := Store.taken_iff (.inl free) owner
  have fresh : st'.patterns[p] = ⟨.opened, some page, false, 0⟩ := by rw [patterns, if_pos rfl]
  have ar : st.Around st' p := by
    refine ⟨fun q hq => ?_, fun g q hq => (taken g q hq).1, fun g q hq owned i => by rw [entry], fun closed => ?_⟩
    · rw [patterns, if_neg hq]
    · cases empty.symm.trans closed
  refine ⟨wf.around ar (fun q hq _ => ?_) (fun g i => ?_) (fun g i none => ?_) (.inr ?_) (sets ▸ wf.setZero),
    counted.around_open wf ar (empty.trans_ne (by decide)) ?_ (fun m => ?_) sets⟩
  · rw [patterns, if_neg hq]
  · rw [entry]
    exact wf.entries g i
  · rw [owner] at none
    rw [entry]
    split at none
    · cases none
    · exact wf.free g i none
  · rw [fresh]
    exact ⟨nofun, ⟨page, rfl, by rw [owner, if_pos rfl]⟩, fun _ => ⟨rfl, rfl⟩⟩
  · rw [fresh]
    nofun
  · rw [patterns]
    split
    · rename_i same
      rw [same, blank]
      rfl
    · rfl

/-- A run written to a page of an OPEN pattern or a free page (R26). -/
theorem Store.Kept.written (h : st.Kept records) {page : PageNo} (opened : st.patterns[p].state = .opened)
    (mine : st.owner[page] = none ∨ st.owner[page] = some p) (first : EntryNo) {es : List SegEntry}
    (hes : ∀ e ∈ es, e.wf = true) : ((st.setOwner page (some p)).writeRun page first es).Kept records := by
  obtain ⟨wf, counted⟩ := h
  have entry := Store.entry_writeRun (st.setOwner page (some p)) page first es
  have elsewhere {g : PageNo} (hg : g ≠ page) (i : EntryNo) :=
    Store.entry_writeRun_of_ne (st.setOwner page (some p)) hg first i es
  obtain ⟨entries, frame⟩ := (st.setOwner page (some p)).writeRun_frame page first es
  generalize (st.setOwner page (some p)).writeRun page first es = st' at *
  have patterns : st'.patterns = st.patterns := by rw [frame]; rfl
  have sets : st'.sets = st.sets := by rw [frame]; rfl
  have owner (g : PageNo) : st'.owner[g] = if g = page then some p else st.owner[g] := by
    rw [frame]
    exact Store.owner_setOwner _ _ _ _
  have taken := Store.taken_iff mine owner
  have ar : st.Around st' p := by
    refine ⟨fun q hq => by rw [patterns], fun g q hq => (taken g q hq).1, fun g q hq owned i => ?_, fun closed => ?_⟩
    · exact elsewhere ((taken g q hq).2 owned) i
    · cases opened.symm.trans closed
  refine ⟨wf.around ar (fun q _ _ => by rw [patterns]) (fun g i => ?_) (fun g i none => ?_) (.inr ?_)
    (sets ▸ wf.setZero), counted.around_open wf ar (opened.trans_ne (by decide)) (by rw [patterns, opened]; decide)
    (fun m => by rw [patterns]) sets⟩
  · rcases entry (g, i) with among | same
    · exact hes _ among
    · rw [same]
      exact wf.entries g i
  · rw [owner] at none
    split at none
    · cases none
    · rename_i hg
      rw [elsewhere hg]
      exact wf.free g i none
  · obtain ⟨home, hh, owned⟩ := wf.homed p (opened.trans_ne (by decide))
    rw [patterns]
    refine ⟨opened.trans_ne (by decide), ⟨home, hh, ?_⟩, fun _ => wf.opened p opened⟩
    rw [owner]
    split
    · rfl
    · exact owned

/-- An OPEN pattern closed, its walked path counted (R28). -/
theorem Store.Kept.closed (h : st.Kept records) {home : PageNo} {endless : Bool} {path : List Place2}
    (opened : st.patterns[p].state = .opened) (hh : st.patterns[p].home = some home)
    (hw : st.closingWalk p home = .closed endless path) : ((st.setPattern p
      { st.patterns[p] with state := .closed, endless := endless }).countPath (· + 1) path).Kept records := by
  obtain ⟨wf, counted⟩ := h
  have mine : st.owner[home] = some p := by
    obtain ⟨home', hh', owned⟩ := wf.homed p (opened.trans_ne (by decide))
    cases hh.symm.trans hh'
    exact owned
  obtain ⟨calls, links⟩ := Store.closingWalk_refers hw mine
  have counts := Store.countPath_recounted (st := st.setPattern p
    { st.patterns[p] with state := .closed, endless := endless }) (f := (· + 1)) path
  generalize (st.setPattern p { st.patterns[p] with state := .closed, endless := endless }).countPath (· + 1) path = st'
    at *
  have entry : st'.entry = st.entry := st.entry_of_entries counts.entries
  have owner : st'.owner = st.owner := counts.owner
  have patterns (q : PatternId) : st'.patterns[q] = { st.patterns[q] with
      state := if q = p then .closed else st.patterns[q].state
      endless := if q = p then endless else st.patterns[q].endless
      useCount := st.patterns[q].useCount + st.callsOn path q } := by
    rw [counts.patterns, iterate_succ, Store.patterns_setPattern]
    split
    · rename_i same
      subst same
      rfl
    · rfl
  have sets (n : SetNo) : st'.sets[n].refCount = st.sets[n].refCount + st.namesOn path n := by
    rw [counts.sets, iterate_succ]
    rfl
  have uncalled (q : PatternId) (hq : st.patterns[q].state ≠ .closed) : st.callsOn path q = 0 := by
    refine List.countP_eq_zero.mpr fun a ha => ?_
    split
    · rename_i m n entry
      have := (calls a ha m n entry).2
      rw [decide_eq_true_eq]
      rintro rfl
      exact hq this
    · simp
  have ar : st.Around st' p := by
    refine ⟨fun q hq => ?_, fun g q _ => by rw [owner], fun g q _ _ i => by rw [entry], fun closed => ?_⟩
    · rw [patterns, if_neg hq, if_neg hq]
    · cases opened.symm.trans closed
  have walk : st'.closingWalk p home = .closed endless path := by
    refine Store.Stands.walk ⟨fun a _ => by rw [entry], fun a ha m n called => ?_, fun a ha g link => ?_⟩ hw
    · obtain ⟨other, closed⟩ := calls a ha m n called
      rw [patterns, if_neg other]
      exact closed
    · rw [owner]
      exact links a ha g link
  have closed : st'.patterns[p].state = .closed := by rw [patterns, if_pos rfl]
  have homed : st'.patterns[p].home = some home := by rw [patterns, hh]
  have before : st.pathOf p = [] := Store.pathOf_of_not_closed (opened.trans_ne (by decide))
  have after : st'.pathOf p = path := Store.pathOf_of_closed closed homed walk
  refine ⟨wf.around ar (fun q _ hq => ?_) (fun g i => ?_) (fun g i none => ?_) (.inr ⟨?_, ?_, ?_⟩) ?_,
    counted.around wf ar (fun _ => ⟨home, path, homed, ?_⟩) (fun m => ?_) fun n _ => ?_⟩
  · rw [patterns, uncalled q hq]
    rfl
  · rw [entry]
    exact wf.entries g i
  · rw [entry]
    exact wf.free g i (owner ▸ none)
  · rw [closed]
    decide
  · exact ⟨home, homed, owner ▸ mine⟩
  · intro opened
    cases closed.symm.trans opened
  · rw [counts.sets, Store.sets_setPattern, wf.setZero]
    rfl
  · rw [walk, patterns]
    simp
  · rw [before, after, patterns, Store.callsOn_congr (st := st) (st' := st') fun a _ => by rw [entry]]
    rfl
  · rw [before, after, sets, Store.namesOn_congr (st := st) (st' := st') fun a _ => by rw [entry]]
    simp [Store.namesOn]

/-- A pattern that is not used ceases to be CLOSED, the counts of its path taken back. -/
theorem Store.Counted.around_takenBack {back : Store} (h : st.Counted records) (wf : st.Wf) (ar : st.Around st' p)
    (counts : st.Recounted back (· - 1) (st.callsOn (st.pathOf p)) (st.namesOn (st.pathOf p)))
    (unused : st.patterns[p].useCount = 0) (after : st'.patterns[p].state ≠ .closed)
    (own : st'.patterns[p].useCount = 0) (others : ∀ q : PatternId, q ≠ p → st'.patterns[q] = back.patterns[q])
    (sets : st'.sets = back.sets) : st'.Counted records := by
  obtain ⟨calls, names⟩ := h.path_le p
  refine h.around wf ar (fun closed => absurd closed after) (fun m => ?_) fun n _ => ?_
  · rw [Store.pathOf_of_not_closed after]
    have := calls m
    by_cases hm : m = p
    · rw [hm] at this ⊢
      rw [own, unused]
      exact (Nat.zero_add _).trans (Nat.le_zero.mp (unused ▸ this))
    · rw [others m hm, counts.patterns, iterate_pred]
      exact Nat.sub_add_cancel this
  · rw [Store.pathOf_of_not_closed after, sets, counts.sets, iterate_pred]
    have := names n
    simp only [Store.namesOn, List.countP_nil, ite_self, Nat.add_zero] at this ⊢
    omega

/-- A CLOSED pattern that is not used made OPEN again, the counts of its path taken back (R30). -/
theorem Store.Kept.reopened (h : st.Kept records) (closed : st.patterns[p].state = .closed)
    (unused : st.patterns[p].useCount = 0) : ((st.takeBack p).setPattern p
      { st.patterns[p] with state := .opened, endless := false }).Kept records := by
  obtain ⟨wf, counted⟩ := h
  have counts := counted.takenBack p
  rw [if_pos closed] at counts
  generalize st.takeBack p = back at *
  obtain ⟨st', hst'⟩ : ∃ st', st' = back.setPattern p { st.patterns[p] with state := .opened, endless := false } :=
    ⟨_, rfl⟩
  rw [← hst']
  obtain ⟨home, hh, owned⟩ := wf.homed p (closed.trans_ne (by decide))
  have own : st'.patterns[p] = ⟨.opened, some home, false, 0⟩ := by
    simp only [hst', Store.patterns_setPattern, if_true, unused, hh]
  have others (q : PatternId) (hq : q ≠ p) : st'.patterns[q] = back.patterns[q] := by
    rw [hst', Store.patterns_setPattern, if_neg hq]
  have entry : st'.entry = st.entry := by
    rw [hst']
    exact st.entry_of_entries counts.entries
  have owner : st'.owner = st.owner := by
    rw [hst']
    exact counts.owner
  have sets : st'.sets = back.sets := by rw [hst']; rfl
  have ar : st.Around st' p := by
    refine ⟨fun q hq => ?_, fun g q _ => by rw [owner], fun g q _ _ i => by rw [entry], fun _ => unused⟩
    rw [others q hq, counts.patterns]
  refine ⟨wf.around ar (fun q hq open_ => ?_) (fun g i => ?_) (fun g i none => ?_) (.inr ?_) ?_,
    counted.around_takenBack wf ar counts unused (by rw [own]; nofun) (by rw [own]) others sets⟩
  · rw [others q hq, counts.patterns, iterate_pred, wf.useCount_of_not_closed open_]
    exact Nat.zero_sub _
  · rw [entry]
    exact wf.entries g i
  · rw [entry]
    exact wf.free g i (owner ▸ none)
  · rw [own, owner]
    exact ⟨nofun, ⟨home, rfl, owned⟩, fun _ => ⟨rfl, rfl⟩⟩
  · rw [sets, counts.sets, wf.setZero, iterate_pred]
    rfl

/-- A pattern that is not used deleted, its pages erased and freed, the counts of its path taken back (R31). -/
theorem Store.Kept.deleted (h : st.Kept records) (unused : st.patterns[p].useCount = 0) :
    (((if st.patterns[p].state = .closed then st.takeBack p else st).freePages p).setPattern p .blank).Kept records := by
  obtain ⟨wf, counted⟩ := h
  have counts := counted.takenBack p
  generalize (if st.patterns[p].state = .closed then st.takeBack p else st) = back at *
  obtain ⟨st', hst'⟩ : ∃ st', st' = (back.freePages p).setPattern p .blank := ⟨_, rfl⟩
  rw [← hst']
  obtain ⟨patterns, sets⟩ := back.freePages_frame p
  have own : st'.patterns[p] = .blank := by rw [hst', Store.patterns_setPattern, if_pos rfl]
  have others (q : PatternId) (hq : q ≠ p) : st'.patterns[q] = back.patterns[q] := by
    rw [hst', Store.patterns_setPattern, if_neg hq, patterns]
  replace sets : st'.sets = back.sets := by rw [hst', Store.sets_setPattern, sets]
  have page (g : PageNo) : st'.owner[g] = (if st.owner[g] = some p then none else st.owner[g])
      ∧ st'.entries[g] = if st.owner[g] = some p then Store.blankPage else st.entries[g] := by
    rw [hst', Store.owner_setPattern, Store.entries_setPattern, ← counts.owner, ← counts.entries]
    exact back.freePages_page p g
  have erased {g : PageNo} (mine : st.owner[g] = some p) (i : EntryNo) : st'.entry (g, i) = .empty := by
    rw [Store.entry, (page g).2, if_pos mine]
    exact Vector.getElem_replicate i.isLt
  have kept {g : PageNo} (other : st.owner[g] ≠ some p) (i : EntryNo) : st'.entry (g, i) = st.entry (g, i) := by
    rw [Store.entry, (page g).2, if_neg other]
    rfl
  have ar : st.Around st' p := by
    refine ⟨fun q hq => ?_, fun g q hq => ?_, fun g q hq owned i => kept ?_ i, fun _ => unused⟩
    · rw [others q hq, counts.patterns]
    · rw [(page g).1]
      split
      · rename_i mine
        rw [mine]
        simpa using Ne.symm hq
      · rfl
    · rw [owned]
      simpa using hq
  refine ⟨wf.around ar (fun q hq open_ => ?_) (fun g i => ?_) (fun g i none => ?_) (.inl ⟨own, fun g => ?_⟩) ?_,
    counted.around_takenBack wf ar counts unused (by rw [own]; nofun) (by rw [own]; rfl) others sets⟩
  · rw [others q hq, counts.patterns, iterate_pred, wf.useCount_of_not_closed open_]
    exact Nat.zero_sub _
  · by_cases mine : st.owner[g] = some p
    · rw [erased mine]
      rfl
    · rw [kept mine]
      exact wf.entries g i
  · by_cases mine : st.owner[g] = some p
    · exact erased mine i
    · rw [(page g).1, if_neg mine] at none
      rw [kept mine]
      exact wf.free g i none
  · rw [(page g).1]
    split
    · simp
    · assumption
  · rw [sets, counts.sets, wf.setZero, iterate_pred]
    rfl

/-! ### Every step -/

variable {s : State}

/-- The store and its counts after every step (R16, R36). -/
def State.Stored (s : State) : Prop := s.store.Kept s.table.records

theorem State.Stored.of_plans {t : State} (h : s.Stored) (store : t.store = s.store) (plans : t.plans = s.plans) :
    t.Stored := by
  rw [State.Stored, store]
  exact Store.Kept.of_plans h plans

theorem State.Stored.of_eq {t : State} (h : s.Stored) (store : t.store = s.store) (table : t.table = s.table) : t.Stored :=
  h.of_plans store (State.plans_of_table table)

theorem State.Stored.keepsOrRetires {t : State} (h : s.Stored) (ht : s.KeepsOrRetires t) : t.Stored := by
  rcases ht with ⟨plans, store⟩ | ⟨r, rest, records, plans, store⟩
  · exact h.of_plans store plans
  · rw [State.Stored, records] at h
    rw [State.Stored, store]
    exact Store.Kept.of_plans (Store.Kept.releaseRecord (pre := []) h) plans

theorem Store.reset_reads (p : PatternId) (g : PageNo) (i : EntryNo) (n : SetNo) : Store.reset.patterns[p] = .blank
    ∧ Store.reset.owner[g] = none ∧ Store.reset.entry (g, i) = .empty ∧ Store.reset.sets[n] = ⟨0, 0⟩ := by
  simp [Store.entry, Store.reset, Store.blankPage]

/-- The store after power-on is as it should be, and counts nothing (R16, R17, R20, R21). -/
theorem Store.Kept.reset : Store.reset.Kept [] := by
  have blank (p : PatternId) : Store.reset.patterns[p] = .blank := (Store.reset_reads p 0 0 0).1
  have owner (g : PageNo) : Store.reset.owner[g] = none := (Store.reset_reads 0 g 0 0).2.1
  have entry (g : PageNo) (i : EntryNo) : Store.reset.entry (g, i) = .empty := (Store.reset_reads 0 g i 0).2.2.1
  have sets (n : SetNo) : Store.reset.sets[n] = ⟨0, 0⟩ := (Store.reset_reads 0 0 0 n).2.2.2
  generalize Store.reset = st at *
  have state (p : PatternId) : st.patterns[p].state = .empty := by rw [blank]; rfl
  have path (p : PatternId) : st.pathOf p = [] := Store.pathOf_of_not_closed ((state p).trans_ne (by decide))
  refine ⟨⟨fun g i => by rw [entry]; rfl, fun g i _ => entry g i, fun p _ => ⟨blank p, fun g => by simp [owner]⟩,
    fun p h => absurd (state p) h, fun p h => ?_, sets 0⟩, .of_counts (fun p h => ?_) (fun m => ?_) fun n _ => ?_⟩
  · cases (state p).symm.trans h
  · cases (state p).symm.trans h
  · simp only [blank, path]
    simp [usesIn, Store.callsOn, PatternRecord.blank]
  · simp only [sets, path]
    simp [refsIn, Store.namesOn]

/-- The bars of an admitted record refer to CLOSED patterns alone (R43). -/
theorem Admission.record_uses_closed {a : Admission} (usable : ∀ b, s.patternUsable (a.bars.get b) = true) (head : Word)
    (m : PatternId) (used : 0 < (a.record head).uses m) : s.store.patterns[m].state = .closed := by
  obtain ⟨b, -, named⟩ := List.countP_pos_iff.mp used
  have named : patternOf? (a.bars.get b).pattern = some m := by
    have panelBar : (a.record head).bars.get b = (a.bars.get b).panelBar := PerBar.get_map _ _ _
    simpa [panelBar, BarRequest.panelBar] using named
  have closed := usable b
  unfold State.patternUsable at closed
  rw [named] at closed
  exact of_decide_eq_true closed

/-- The record of a tag stands in the table, and a removal takes it out (R46). -/
theorem State.removeRecord_splits {r : PanelRecord} (found : s.findTag r.tag.toNat = some r) :
    ∃ pre post, s.table.records = pre ++ r :: post ∧ (s.removeRecord r).table.records = pre ++ post := by
  obtain ⟨-, pre, post, records, other⟩ := List.find?_eq_some_iff_append.mp found
  refine ⟨pre, post, records, ?_⟩
  rw [State.removeRecord_records, records, List.eraseP_append_right, List.eraseP_cons_of_pos (by simp)]
  intro q hq
  have := other q hq
  simp only [Bool.not_eq_true', decide_eq_false_iff_not] at this ⊢
  rw [decide_eq_true_eq]
  exact fun same => this (congrArg BitVec.toNat same)

theorem State.Stored.owned {t : State} (h : s.Stored) (ht : s.Owned t) : t.Stored := by
  cases ht with
  | members n set hn => exact Store.Kept.members h hn set
  | opened p page empty free => exact Store.Kept.opened h empty free
  | written p page first es opened mine hes => exact Store.Kept.written h opened mine first hes
  | closed p home endless path opened hh hw => exact Store.Kept.closed h opened hh hw
  | reopened p closed unused => exact Store.Kept.reopened h closed unused
  | deleted p _ unused => exact Store.Kept.deleted h unused
  | admitted a _ _ _ usable _ _ _ => exact Store.Kept.addRecord h (Admission.record_uses_closed usable _)
  | removed r found _ =>
    obtain ⟨pre, post, before, after⟩ := State.removeRecord_splits found
    rw [State.Stored, before] at h
    rw [State.Stored, after]
    exact Store.Kept.releaseRecord h
  | aborted r => exact h.of_plans (by simp) (State.plans_markAborted r)
  | written_param id v _ =>
    obtain ⟨records, -, -, store, -⟩ := State.afterWrite_frame id { s with params := s.params.store id v }
    exact h.of_plans store (congrArg (List.map PanelRecord.plan) records)
  | cleared => exact Store.Kept.releaseAll h
  | _ => exact h.of_eq (by simp) (by simp)

theorem State.Stored.effect {t : State} (h : s.Stored) (ht : s.Effect t) : t.Stored := by
  cases ht with
  | started cause => exact Store.Kept.reset
  | dropped => exact h.of_plans rfl (by simp [State.plans, State.dropOperations, PanelRecord.plan, Function.comp_def])
  | moved w _ => exact State.Stored.keepsOrRetires (s := s.setW w) h State.wArrival_keepsOrRetires
  | acknowledged => exact h.keepsOrRetires State.acknowledgeCut_keepsOrRetires
  | stroked b => exact h.of_plans (by simp) ((State.plans_of_table (by simp)).trans (State.plans_flush b))
  | delivered m => exact h.of_plans (by simp) (State.plans_deliver m)
  | answered owned => exact h.owned owned
  | frameFailed e => exact h.of_eq rfl rfl
  | frameStopped e => exact h.of_eq rfl rfl
  | miscounted => exact h.of_eq rfl rfl
  | _ => exact h.of_eq (by simp) (by simp)

end Sys2Proof.Machine
end

section
/-! PROOF. The bar contexts: what the stages of a stroke keep, the placement fields in their ranges, and X within the
travel limits (R63, R72 to R83, R105). -/

namespace Sys2Proof.Machine

/-! ### What the stages of a stroke keep -/

section

variable {k : Stroke} {w : Work}

@[simp] theorem Work.setPlace_place (q : Place) : (w.setPlace q).place = q := rfl
@[simp] theorem Work.setPlace_located (q : Place) : (w.setPlace q).located = w.located := rfl
@[simp] theorem Work.setPlace_notes (q : Place) : (w.setPlace q).notes = w.notes := rfl
@[simp] theorem Work.setPlace_news (q : Place) : (w.setPlace q).news = w.news := rfl
@[simp] theorem Work.empty_place (o : StrokeOutcome) : (w.empty o).place = { w.place with engaged := 0, outcome := o } := rfl
@[simp] theorem Work.empty_located (o : StrokeOutcome) : (w.empty o).located = w.located := rfl
@[simp] theorem Work.empty_notes (o : StrokeOutcome) : (w.empty o).notes = w.notes := rfl
@[simp] theorem Work.empty_news (o : StrokeOutcome) : (w.empty o).news = w.news := rfl
@[simp] theorem Work.tell_located (b : Bar) (head : Word) (news : StatusNews) : (w.tell b head news).located = w.located :=
  rfl
@[simp] theorem Work.tell_notes (b : Bar) (head : Word) (news : StatusNews) : (w.tell b head news).notes = w.notes := rfl

@[simp] theorem Work.note_located (c : Bool) (head : Word) (kind : DefectKind) :
    (w.note c head kind).located = w.located := by
  unfold Work.note
  split <;> rfl

@[simp] theorem Work.note_news (c : Bool) (head : Word) (kind : DefectKind) : (w.note c head kind).news = w.news := by
  unfold Work.note
  split <;> rfl

@[simp] theorem Stroke.judge_located (r : PanelRecord) : (k.judge r w).located = w.located := by
  unfold Stroke.judge
  dsimp only
  split_ifs <;> simp

/-- A panel left is LEFT, and nothing else of the placement fields changes (R65). -/
@[simp] theorem Stroke.leave_place (c : CurrentPanel) :
    (k.leave c w).place = { w.place with current := some { c with presence := .left } } := by
  unfold Stroke.leave
  dsimp only
  split <;> simp

@[simp] theorem Stroke.leave_located (c : CurrentPanel) : (k.leave c w).located = w.located := by
  unfold Stroke.leave
  dsimp only
  split <;> simp

/-- The mark of a stopped stroke, made once for each panel (R68). -/
@[simp] theorem Stroke.markStopped_place (r : PanelRecord) :
    (k.markStopped r w).place = { w.place with stoppedInPanel := !k.running || w.place.stoppedInPanel } := by
  unfold Stroke.markStopped
  dsimp only
  split
  · rename_i h
    rcases hw : w.place with ⟨_, stopped, _⟩
    cases hk : k.running <;> simp_all
  · rename_i h
    split <;> simp_all

theorem Stroke.gap_place : (k.gap w).place = w.place
    ∨ ∃ c : CurrentPanel, (k.gap w).place = { w.place with current := some { c with presence := .left } } := by
  unfold Stroke.gap
  split
  · exact .inl rfl
  · rename_i c _
    split
    · exact .inl rfl
    · split
      · exact .inr ⟨c, Stroke.leave_place c⟩
      · split
        · exact .inr ⟨c, Stroke.leave_place c⟩
        · exact .inl rfl

@[simp] theorem Stroke.gap_located : (k.gap w).located = w.located := by
  unfold Stroke.gap
  repeat' split
  all_goals simp

@[simp] theorem Stroke.tailStroke_located (r : PanelRecord) : (k.tailStroke r w).located = w.located := by
  unfold Stroke.tailStroke
  dsimp only
  split <;> rfl

@[simp] theorem Stroke.placed_located (r : PanelRecord) : (k.placed r w).located = w.located := by
  simp [Stroke.placed]

@[simp] theorem Stroke.walkStroke_located (r : PanelRecord) : (k.walkStroke r w).located = w.located := by
  unfold Stroke.walkStroke
  dsimp only
  split_ifs <;> simp

@[simp] theorem Stroke.placement_located (r : PanelRecord) : (k.placement r w).located = w.located := by
  unfold Stroke.placement
  dsimp only
  split_ifs <;> simp

@[simp] theorem Stroke.runningStroke_located : (k.runningStroke w).located = w.located := by
  unfold Stroke.runningStroke
  split
  · rfl
  · dsimp only
    split_ifs <;> simp

/-- What a stroke does, it does where it was located (R70). -/
@[simp] theorem Stroke.act_located : (k.act w).located = w.located := by
  unfold Stroke.act
  split <;> simp

end

/-! ### Placement fields in their ranges -/

/-- Placement fields in their ranges, with the commanded position within the bar's travel limits. -/
structure Place.Within (p : Params) (b : Bar) (q : Place) : Prop where
  place : q.Wf
  lateral : p.xMin.get b ≤ q.x ∧ q.x ≤ p.xMax.get b

variable {p : Params} {b : Bar} {q : Place}

theorem Place.reset_wf : Place.reset.Wf := by
  constructor <;> simp [Place.reset, SentFrame.Wf, SentFrame.blank, TailState.done]

theorem Place.Wf.at_x (h : q.Wf) (x : Int) : Place.Wf { q with x := x } := { h with }

/-- Changes to the fields that have no range. -/
theorem Place.Within.free (h : q.Within p b) (current : Option CurrentPanel) (stopped : Bool) (cursor : Option Cursor)
    (finished : Bool) (engaged : NeedleSet) (outcome : StrokeOutcome) :
    Place.Within p b { q with
      current := current
      stoppedInPanel := stopped
      cursor := cursor
      finished := finished
      engaged := engaged
      outcome := outcome } :=
  ⟨{ h.place with }, h.lateral⟩

theorem saturate_bounds (v : Int) : -65535 ≤ saturate v ∧ saturate v ≤ 65535 := by
  unfold saturate
  omega

theorem Store.under_some (st : Store) (c : Cursor) : st.under (some c) = st.entry (c.page, c.index) := rfl

/-- One step of the walk from a place that is not covered keeps the ranges (R72 to R76). -/
theorem Place.Within.walkStep (h : q.Within p b) {st : Store} {c : Cursor} (wf : (st.entry (c.page, c.index)).wf = true)
    (own : Option PatternId) {y : Int} (hy : 0 ≤ y ∧ y ≤ 999999)
    (uncovered : covers (st.entry (c.page, c.index)) q y = false) : ((walkStep st own y c q).1).Within p b := by
  have frames := h.place.frames
  have depth := h.place.depth
  unfold Machine.walkStep
  cases entry : st.entry (c.page, c.index) with
  | line set dy dx =>
    have ys := h.place.ys
    have past : ¬ y - q.ys < dy := by simpa [entry, covers] using uncovered
    exact ⟨{ h.place with ys := by dsimp only; omega, ps := saturate_bounds _ }, h.lateral⟩
  | lock set n a => exact ⟨{ h.place with ys := hy, lockCount := Nat.zero_le _ }, h.lateral⟩
  | call m n =>
    have repeats : 1 ≤ n ∧ n ≤ 255 := by simpa [entry, SegEntry.wf] using wf
    dsimp only
    unfold stepCall
    split
    · rename_i room
      refine ⟨{ h.place with depth := room, frames := ?_ }, h.lateral⟩
      rintro f (- | ⟨_, hf⟩)
      · exact repeats
      · exact frames f hf
    · exact ⟨{ h.place with }, h.lateral⟩
  | fin =>
    dsimp only
    unfold stepEnd
    split
    · exact ⟨{ h.place with }, h.lateral⟩
    · rename_i f below stack
      rw [stack] at frames depth
      have top := frames f List.mem_cons_self
      split
      · refine ⟨{ h.place with depth := depth, frames := ?_ }, h.lateral⟩
        rintro g (- | ⟨_, hg⟩)
        · exact ⟨by dsimp only; omega, by dsimp only; omega⟩
        · exact frames g (List.mem_cons_of_mem _ hg)
      · refine ⟨{ h.place with depth := ?_, frames := fun g hg => frames g (List.mem_cons_of_mem _ hg) }, h.lateral⟩
        exact (Nat.le_succ _).trans depth
  | link page => exact ⟨{ h.place with }, h.lateral⟩
  | empty => exact h

/-- The walk keeps the ranges; where it stops as covered, the entry under the cursor covers the stroke (R71). -/
theorem Place.Within.walkCursor {st : Store} (wf : ∀ a, (st.entry a).wf = true) (own : Option PatternId) {y : Int}
    (hy : 0 ≤ y ∧ y ≤ 999999) (budget : Nat) (deep : Bool) (h : q.Within p b) :
    let out := walkCursor st own y budget q deep
    out.1.Within p b ∧ (out.2.2 = true → covers (st.under out.1.cursor) out.1 y = true) := by
  induction budget generalizing q deep with
  | zero =>
    unfold Machine.walkCursor
    dsimp only
    split
    · exact ⟨h, by simp⟩
    · rename_i c hc
      split
      · exact ⟨h, by simp⟩
      · split
        · exact ⟨h, fun _ => by rw [hc, Store.under_some]; assumption⟩
        · exact ⟨h, by simp⟩
  | succ budget ih =>
    unfold Machine.walkCursor
    dsimp only
    split
    · exact ⟨h, by simp⟩
    · rename_i c hc
      split
      · exact ⟨h, by simp⟩
      · split
        · exact ⟨h, fun _ => by rw [hc, Store.under_some]; assumption⟩
        · rename_i uncovered
          exact ih _ (h.walkStep (wf _) own hy (by simpa using uncovered))

/-- The clamped target lies within the limits, and so does every position on the way to it (R82, R83). -/
theorem clampTo_bounds {lo hi : Int} (h : lo ≤ hi) (target : Int) : lo ≤ clampTo lo hi target ∧ clampTo lo hi target ≤ hi := by
  unfold clampTo
  split_ifs <;> omega

theorem moveTowards_bounds {lo hi target x : Int} (step : Nat) (ht : lo ≤ target ∧ target ≤ hi) (hx : lo ≤ x ∧ x ≤ hi) :
    lo ≤ moveTowards step target x ∧ moveTowards step target x ≤ hi := by
  unfold moveTowards
  split_ifs <;> omega

/-- On a covering segment the pattern position keeps the ranges (R80, R81). -/
theorem Place.Within.patternPosition (h : q.Within p b) {e : SegEntry} (wf : e.wf = true) {y : Int}
    (covered : covers e q y = true) : ((patternPosition e y q).1).Within p b := by
  cases e with
  | line set dy dx => exact ⟨{ h.place with p := saturate_bounds _ }, h.lateral⟩
  | lock set n a =>
    have strokes : q.lockCount < n := by simpa [covers] using covered
    simp only [SegEntry.wf, Bool.and_eq_true, decide_eq_true_eq] at wf
    exact ⟨{ h.place with p := h.place.ps, lockCount := by simp [Machine.patternPosition]; omega }, h.lateral⟩
  | empty | call | fin | link => cases covered

/-! ### The stages of a stroke -/

/-- What a stroke reads is as it should be: the parameters, the entries of the store, the lengths of the panels. -/
structure Stroke.Reads (k : Stroke) : Prop where
  params : k.state.params.Wf
  entries : ∀ a, (k.state.store.entry a).wf = true
  records : ∀ r ∈ k.state.table.records, r.length ≤ 1000000

variable {k : Stroke} {w : Work} {r : PanelRecord}

/-- Where the covering panel lies under the bar's line (R64). -/
theorem Stroke.Reads.covering (h : k.Reads) (hr : k.covering = some r) : 0 ≤ k.y r.head ∧ k.y r.head ≤ 999999 := by
  have lies := List.find?_some hr
  have length := h.records r (List.mem_of_find?_eq_some hr)
  simp only [Bool.and_eq_true, decide_eq_true_eq] at lies
  omega

theorem Stroke.Reads.enter (hw : w.place.Within p b) (hy : 0 ≤ k.y r.head ∧ k.y r.head ≤ 999999) :
    (k.enter r w).place.Within p b := by
  have context : Place.Within p b { w.place with
      current := some ⟨r.head, .inside⟩
      stoppedInPanel := false
      lastY := k.y r.head
      cursor := (k.panelBar r).pattern.map k.state.store.homeCursor
      ys := 0
      ps := 0
      lockCount := 0
      tail := .outside
      finished := false
      stack := []
      p := 0 } :=
    ⟨⟨hy, by simp, by simp, by simp, Nat.zero_le _, Nat.zero_le _, Nat.zero_le _, by simp, hw.place.previous⟩,
      hw.lateral⟩
  unfold Stroke.enter
  dsimp only
  rw [Stroke.markStopped_place]
  split <;> exact context.free _ _ _ _ _ _

theorem Stroke.Reads.stay (hw : w.place.Within p b) (hy : 0 ≤ k.y r.head ∧ k.y r.head ≤ 999999) :
    (k.stay r w).place.Within p b := by
  have lastY := hw.place.lastY
  unfold Stroke.stay
  dsimp only
  rw [Stroke.markStopped_place]
  exact ⟨{ hw.place with lastY := by dsimp only [Work.setPlace]; omega }, hw.lateral⟩

theorem Stroke.Reads.leave (hw : w.place.Within p b) (c : CurrentPanel) : (k.leave c w).place.Within p b := by
  rw [Stroke.leave_place]
  exact hw.free _ _ _ _ _ _

theorem Stroke.Reads.gap (hw : w.place.Within p b) : (k.gap w).place.Within p b := by
  rcases k.gap_place (w := w) with same | ⟨c, left⟩
  · rw [same]
    exact hw
  · rw [left]
    exact hw.free _ _ _ _ _ _

/-- Locating the panel keeps the ranges, and a located panel lies under the bar's line (R64 to R68). -/
theorem Stroke.Reads.locate (h : k.Reads) (hw : w.place.Within p b) (fresh : w.located = none) :
    (k.locate w).place.Within p b
      ∧ ∀ r, (k.locate w).located = some r → 0 ≤ k.y r.head ∧ k.y r.head ≤ 999999 := by
  have nowhere {v : Work} (hv : v.located = none) (r : PanelRecord) (hr : v.located = some r) :
      0 ≤ k.y r.head ∧ k.y r.head ≤ 999999 := by
    rw [hv] at hr
    cases hr
  unfold Stroke.locate
  split
  · exact ⟨Stroke.Reads.gap hw, nowhere (by simpa using fresh)⟩
  · rename_i r hr
    have hy := h.covering hr
    have here (q : PanelRecord) (hq : some r = some q) : 0 ≤ k.y q.head ∧ k.y q.head ≤ 999999 := by
      cases hq
      exact hy
    split
    · exact ⟨Stroke.Reads.enter hw hy, here⟩
    · split_ifs
      · exact ⟨Stroke.Reads.stay hw hy, here⟩
      · exact ⟨hw, nowhere fresh⟩
      · exact ⟨Stroke.Reads.enter (Stroke.Reads.leave hw _) hy, here⟩
      · exact ⟨Stroke.Reads.enter hw hy, here⟩
      · exact ⟨Stroke.Reads.gap hw, nowhere (by simpa using fresh)⟩

theorem Stroke.Reads.tailStroke (h : k.Reads) (hw : w.place.Within p b) : (k.tailStroke r w).place.Within p b := by
  have most := h.params.tailTie
  unfold Stroke.tailStroke
  dsimp only
  split
  · rename_i more
    exact ⟨{ hw.place with tail := by simp [TailState.done] at more ⊢; omega }, hw.lateral⟩
  · exact hw.free _ _ _ _ _ _

theorem Stroke.Reads.placed (h : k.Reads) (hw : w.place.Within k.state.params k.bar)
    (covered : covers (k.state.store.under w.place.cursor) w.place (k.y r.head) = true) :
    (k.placed r w).place.Within k.state.params k.bar := by
  have wf : (k.state.store.under w.place.cursor).wf = true := by
    unfold Store.under
    split
    · exact h.entries _
    · rfl
  have positioned := hw.patternPosition wf covered
  have limits := (h.params.xMin k.bar).2.trans (h.params.xMax k.bar).1
  simp only [Stroke.placed, Work.note_place, Work.setPlace_place]
  exact ⟨{ positioned.place with }, moveTowards_bounds _ (clampTo_bounds limits _) positioned.lateral⟩

theorem Stroke.Reads.walkStroke (h : k.Reads) (hw : w.place.Within k.state.params k.bar)
    (hy : 0 ≤ k.y r.head ∧ k.y r.head ≤ 999999) : (k.walkStroke r w).place.Within k.state.params k.bar := by
  obtain ⟨walked, covers⟩ := hw.walkCursor h.entries (k.panelBar r).pattern hy Config.walkBudget false
  unfold Stroke.walkStroke
  dsimp only
  split
  · rename_i covered
    exact h.placed (by simpa using walked) (by simpa using covers covered)
  · split
    · simpa using walked.free _ _ _ _ 0 .finished
    · simpa using walked.free _ _ _ _ 0 .overrun

theorem Stroke.Reads.placement (h : k.Reads) (hw : w.place.Within k.state.params k.bar)
    (hy : 0 ≤ k.y r.head ∧ k.y r.head ≤ 999999) : (k.placement r w).place.Within k.state.params k.bar := by
  have noted : (w.note (k.strokeClass = .long) r.head .longStitch).place.Within k.state.params k.bar := by simpa using hw
  unfold Stroke.placement
  dsimp only
  split_ifs
  · exact h.tailStroke noted
  · refine h.tailStroke ⟨{ noted.place with tail := Nat.zero_le _ }, noted.lateral⟩
  · exact noted.free _ _ _ _ _ _
  · exact h.walkStroke noted hy

/-- What a stroke does keeps the ranges, and a stroke located nowhere that runs engages no needle (R70, R84). -/
theorem Stroke.Reads.act (h : k.Reads) (hw : w.place.Within k.state.params k.bar)
    (hy : ∀ r, w.located = some r → 0 ≤ k.y r.head ∧ k.y r.head ≤ 999999) :
    (k.act w).place.Within k.state.params k.bar ∧ (w.located = none → (k.act w).place.engaged = 0) := by
  unfold Stroke.act Stroke.runningStroke
  split
  · split
    · exact ⟨hw.free _ _ _ _ _ _, fun _ => rfl⟩
    · rename_i r hr
      refine ⟨?_, fun none => by rw [hr] at none; cases none⟩
      dsimp only
      split_ifs
      · exact hw.free _ _ _ _ _ _
      · exact h.placement (by simpa using hw) (hy r hr)
      · simpa using hw.free _ _ _ _ 0 .held
  · exact ⟨hw.free _ _ _ _ _ _, fun _ => rfl⟩

theorem Stroke.Reads.finish (h : k.Reads) (hw : (k.state.bars.get k.bar).place.Within k.state.params k.bar) :
    k.finish.place.Within k.state.params k.bar ∧ (k.finish.located = none → k.finish.place.engaged = 0) := by
  obtain ⟨located, hy⟩ := h.locate (w := k.start) hw rfl
  obtain ⟨acted, engaged⟩ := h.act located hy
  exact ⟨acted, fun none => engaged (by simpa [Stroke.finish] using none)⟩

/-- The frame of a stroke names its panel when a needle is in it (R105). -/
theorem Stroke.frame_wf (engaged : w.located = none → w.place.engaged = 0) : (k.frame w).Wf := by
  unfold SentFrame.Wf Stroke.frame
  rcases located : w.located with - | r
  · simp [engaged located]
  · exact .inr rfl

/-! ### Every step -/

variable {s : State}

/-- Every bar's context is as it should be. -/
def State.Barred (s : State) : Prop := ∀ b, (s.bars.get b).Wf s.params b

theorem State.Barred.of_eq {t : State} (h : s.Barred) (params : t.params = s.params) (bars : t.bars = s.bars) :
    t.Barred := by
  unfold State.Barred
  rw [params, bars]
  exact h

theorem State.Barred.raise (h : s.Barred) (e : Sticky) (d : Option Detail) : (s.raise e d).Barred := h.of_eq rfl rfl

/-- A bar's control fields change, its transfer staying or ending. -/
theorem State.Barred.setControl (h : s.Barred) {b : Bar} {c : Control}
    (hc : c.transfer = (s.bars.get b).control.transfer ∨ c.transfer = none) : (s.setControl b c).Barred := by
  intro b'
  have old := h b'
  by_cases same : b' = b
  · subst same
    simp only [State.setControl_bars, PerBar.get_set_self, State.setControl_params]
    refine ⟨old.place, old.lateral, fun f hf => ?_⟩
    rcases hc with stays | ends
    · exact old.transfer f (stays ▸ hf)
    · rw [ends] at hf
      cases hf
  · simp only [State.setControl_bars, PerBar.get_set_of_ne _ _ same, State.setControl_params]
    exact old

theorem State.Barred.latch (h : s.Barred) (b : Bar) (r : HaltReason) : (s.latch b r).Barred :=
  h.setControl (.inl rfl)

theorem State.Barred.latchAll (h : s.Barred) (r : HaltReason) : (s.latchAll r).Barred := by
  intro b
  rw [State.get_latchAll]
  exact ⟨(h b).place, (h b).lateral, (h b).transfer⟩

theorem State.Barred.takeNotice (h : s.Barred) (n : DefectNotice) : (s.takeNotice n).Barred := by
  have folded : (s.fold n.head (some n.bar) n.kinds n.y).Barred := h.of_eq (by simp) (by simp)
  unfold State.takeNotice
  split
  · exact h
  · dsimp only
    split
    · exact (folded.raise _ _).latch _ _
    · exact folded

theorem State.Barred.deliver (h : s.Barred) (m : Message) : (s.deliver m).Barred := by
  cases m with
  | status m => exact h.of_eq rfl rfl
  | notice n => exact h.takeNotice n
  | consumption n => exact h.of_eq (by simp [State.deliver]) (by simp [State.deliver])
  | scan r => exact h.of_eq (by simp [State.deliver]) (by simp [State.deliver])

theorem State.Barred.flush (h : s.Barred) (b : Bar) : (s.flush b).Barred :=
  State.flush_induction h b (fun _ _ _ hu => hu.of_eq rfl rfl) fun _ m hu => hu.deliver m

theorem State.Barred.takeEcho (h : s.Barred) (b : Bar) (echo : NeedleSet) : (s.takeEcho b echo).Barred := by
  unfold State.takeEcho
  dsimp only
  split
  · exact h
  · have ended : (s.setControl b { (s.bars.get b).control with transfer := none }).Barred := h.setControl (.inr rfl)
    split
    · exact ended
    · exact (ended.raise _ _).latch _ _

/-- A stroke leaves the bar's context as it should be (R62). -/
theorem State.Barred.evaluateStroke (h : s.Barred) (reads : (s.strokeOf b).Reads) : (s.evaluateStroke b).Barred := by
  obtain ⟨placed, engaged⟩ := reads.finish ⟨(h b).place, (h b).lateral⟩
  have framed := (s.strokeOf b).frame_wf engaged
  intro b'
  rw [State.evaluateStroke_params]
  by_cases same : b' = b
  · subst same
    rw [State.evaluateStroke_bar]
    refine ⟨{ placed.place with previous := ?_ }, placed.lateral, fun f hf => ?_⟩
    · unfold Stroke.sentPlace
      dsimp only
      split
      · exact framed
      · exact .inl rfl
    · unfold Stroke.sentControl at hf
      split at hf
      · cases hf
        exact framed
      · cases hf
  · have other : (s.evaluateStroke b).bars.get b' = s.bars.get b' := by
      simp [State.evaluateStroke, PerBar.get_set_of_ne _ _ same]
    rw [other]
    exact h b'

/-- A write of XMIN or XMAX leaves X within the limits (R168). -/
theorem State.Barred.writeParam (h : s.Barred) {id : ParamId} {v : Int} (hv : s.valueAllowed id v = true) :
    (s.writeParam id v).Barred := by
  obtain ⟨-, -, -, -, bars, params, -⟩ := State.afterWrite_frame id { s with params := s.params.store id v }
  intro b
  rw [State.writeParam, bars, params]
  refine ⟨(h b).place, ?_, (h b).transfer⟩
  have lateral := (h b).lateral
  cases id with
  | xMin c =>
    simp only [State.valueAllowed, Bool.and_eq_true, decide_eq_true_eq] at hv
    dsimp only [Params.store]
    rw [PerBar.get_set]
    split
    · rename_i same
      exact ⟨same ▸ hv.2, lateral.2⟩
    · exact lateral
  | xMax c =>
    simp only [State.valueAllowed, Bool.and_eq_true, decide_eq_true_eq] at hv
    dsimp only [Params.store]
    rw [PerBar.get_set]
    split
    · rename_i same
      exact ⟨lateral.1, same ▸ hv.2⟩
    · exact lateral
  | _ => exact lateral

theorem State.Barred.owned {t : State} (h : s.Barred) (ht : s.Owned t) : t.Barred := by
  cases ht with
  | staged b c transfer => exact h.setControl (.inl transfer)
  | written_param id v hv => exact h.writeParam hv
  | cleared =>
    intro b
    rw [State.lineClear_params]
    simp only [State.lineClear, PerBar.get_map]
    exact ⟨Place.reset_wf.at_x _, (h b).lateral, nofun⟩
  | _ => exact h.of_eq (by simp) (by simp)

theorem State.Barred.effect {t : State} (h : s.Barred) (wf : s.Sound) (threaded : s.Threaded) (stored : s.Stored)
    (ht : s.Effect t) : t.Barred := by
  cases ht with
  | started cause =>
    intro b
    have fresh : (s.startOperation cause).bars.get b = .reset := PerBar.get_const _ _
    rw [fresh]
    refine ⟨Place.reset_wf, ?_, nofun⟩
    simp [State.startOperation, State.reset, Params.default, BarContext.reset, Place.reset]
  | dropped =>
    intro b
    simp only [State.dropOperations, PerBar.get_map]
    exact ⟨(h b).place, (h b).lateral, nofun⟩
  | miscounted => exact (h.raise _ _).latchAll _
  | stroked b =>
    refine (h.flush b).evaluateStroke ⟨(threaded.flush b).params, fun a => ?_, fun r hr => ?_⟩
    · have kept : (s.flush b).Stored := stored.of_plans (by simp) (State.plans_flush b)
      exact kept.wf.entries a.1 a.2
    · exact ((wf.flush b).table.records r hr).length.2
  | echoed b echo => exact h.takeEcho b echo
  | delivered m => exact h.deliver m
  | frameFailed e => exact h.raise _ _
  | frameStopped e => exact (h.raise _ _).latchAll _
  | answered owned => exact h.owned owned
  | _ => exact h.of_eq (by simp) (by simp)

/-- Settles O58: the store and the counts by `State.Stored`, the bars by `State.Barred`, each kept by every effect that a
step can have. -/
theorem stepKeepsStoreBars : Obligations.StepKeepsStoreBars := by
  intro s t wf ht
  obtain ⟨u, v, before, effect, after⟩ := step_becomes ht
  have stored : u.Stored := by
    rw [State.Stored, before.store, before.table]
    exact ⟨wf.store, wf.counted⟩
  have sound : u.Sound := State.Sound.of_eq ⟨wf.table, wf.cutter, wf.events⟩ (by rw [before.table]) before.cutter before.events
  have threaded : u.Threaded := State.Threaded.of_eq ⟨wf.params, wf.needles⟩ before.params before.needles
  have barred : u.Barred := State.Barred.of_eq wf.bars before.params before.bars
  have storedAfter := stored.effect effect
  have barredAfter := barred.effect sound threaded stored effect
  rw [after.store, after.table]
  exact ⟨storedAfter.wf, storedAfter.counted, barredAfter.of_eq after.params after.bars⟩

end Sys2Proof.Machine
end

section
/-! PROOF. The queue, the restarts and the reset values (R13, R155, R172). -/

namespace Sys2Proof.Machine

variable {s : State}

/-- Settles O1: a step is the front command carried out, by definition. -/
theorem stepTakesFrontCommand : Obligations.StepTakesFrontCommand := fun _ _ _ => rfl

/-! ### Every command is carried out -/

/-- No owner of a request touches the queue. -/
theorem State.Owned.pending {t : State} (h : s.Owned t) : t.pending = s.pending := by
  cases h with
  | written_param id v _ => cases id <;> rfl
  | masked => rfl
  | _ => simp

theorem request_pending (kind tag : Byte) (payload : List Byte) (s : State) :
    ∃ t, request kind tag (ownerAnswer kind payload) s = .next t ∧ t.pending = s.pending := by
  unfold request
  dsimp only
  split
  · exact ⟨_, rfl, (ownerAnswer_owned kind payload s.enterTransaction).pending.trans (by simp)⟩
  · exact ⟨_, rfl, rfl⟩

theorem State.transactionEnd_pending (bytes : List Byte) : (s.transactionEnd bytes).pending = s.pending := by
  unfold State.transactionEnd
  split
  case h_5 => exact (ownerAnswer_owned _ _ s.enterTransaction).pending.trans (by simp)
  all_goals simp

/-- Settles O2: the requests by their owners, the other commands one by one. -/
theorem everyCommandIsCarriedOut : Obligations.EveryCommandIsCarriedOut := by
  intro c s
  have framed {kind tag : Byte} {payload : List Byte} (h : frameOf c = some (kind, tag, payload)) :
      ∃ t, exec c s = .next t ∧ t.pending = s.pending := by
    rw [exec_of_frame h]
    exact request_pending kind tag payload s
  cases c
  case powerOn => exact ⟨_, rfl, rfl⟩
  case resetNLow =>
    refine ⟨_, rfl, ?_⟩
    split <;> rfl
  case pinReset =>
    refine ⟨_, rfl, ?_⟩
    split <;> rfl
  case countArrival x y =>
    refine ⟨_, rfl, ?_⟩
    split <;> simp
  case cutWindowExpiry x y =>
    refine ⟨_, rfl, ?_⟩
    dsimp only
    split
    · split <;> simp
    · rfl
  case cutDone =>
    refine ⟨_, rfl, ?_⟩
    split <;> simp
  case freeze => exact ⟨_, rfl, rfl⟩
  case driveFault => exact ⟨_, rfl, rfl⟩
  case strokeEvent b =>
    refine ⟨_, rfl, ?_⟩
    split <;> simp
  case selectEcho b echo =>
    refine ⟨_, rfl, ?_⟩
    split <;> simp
  case barStatusMessage m =>
    refine ⟨_, rfl, ?_⟩
    split <;> simp
  case defectNotice n =>
    refine ⟨_, rfl, ?_⟩
    split <;> simp
  case consumptionNotice n =>
    refine ⟨_, rfl, ?_⟩
    split <;> simp
  case scanRequest r =>
    refine ⟨_, rfl, ?_⟩
    split <;> simp
  case retryCountdownExpiry n r =>
    refine ⟨_, rfl, ?_⟩
    dsimp only
    split
    · split <;> simp
    · rfl
  case scanDataArrival b channels =>
    refine ⟨_, rfl, ?_⟩
    split <;> simp
  case linkTransactionStart =>
    refine ⟨_, rfl, ?_⟩
    split <;> rfl
  case frameError bits =>
    refine ⟨_, rfl, ?_⟩
    split
    · exact State.transactionEnd_pending _
    · rfl
  case strokeFall => exact ⟨_, rfl, rfl⟩
  case cutDoneFall => exact ⟨_, rfl, rfl⟩
  all_goals exact framed rfl

/-! ### Reset values -/

/-- Settles O3: the reset state read field by field. -/
theorem resetValues : Obligations.ResetValues := by
  have store := Store.reset_reads
  refine ⟨rfl, by decide, fun g i => ⟨(store 0 g i 0).2.1, (store 0 g i 0).2.2.1⟩, fun p => (store p 0 0 0).1,
    fun n => (store 0 0 0 n).2.2.2, rfl, rfl, fun b => ?_, fun b n => ?_, fun b => ?_, fun e => ?_, rfl, rfl⟩
  · cases b <;> exact ⟨rfl, rfl, rfl⟩
  · simp [State.needle, State.reset, NeedleRecord.reset]
  · cases b <;> rfl
  · exact eventsAtStart_event rfl e

theorem LinkPhase.atStart_of_ne_idle {ph : LinkPhase} (h : ph ≠ .idle) : ph.atStart = .ignored := by
  cases ph
  case idle => exact absurd rfl h
  all_goals rfl

/-- Settles O4: both restarts start operation, by definition. -/
theorem restartGivesResetValues : Obligations.RestartGivesResetValues := by
  intro s
  refine ⟨s.link.phase.atStart, LinkPhase.atStart_of_ne_idle, rfl, fun supply => ?_, fun supply => ?_⟩
  · have inputs : ({ s.inputs with supply := true, resetN := true } : Inputs) = { s.inputs with resetN := true } := by
      rw [← supply]
    show execPinReset s = _
    rw [execPinReset, if_pos supply, State.startOperation, inputs]
    rfl
  · show execPinReset s = _
    rw [execPinReset, supply]
    rfl

/-- Settles O59: each block after reset, by the lemmas that keep it. -/
theorem resetIsWellFormed : Obligations.ResetIsWellFormed := by
  have sound : State.reset.Sound := State.Sound.of_start rfl rfl rfl
  refine ⟨⟨Params.default_wf, Store.Kept.reset.wf, Store.Kept.reset.counted, sound.table, sound.cutter, fun b => ?_,
    fun b n => ?_, sound.events⟩, List.Pairwise.nil⟩
  · have fresh : State.reset.bars.get b = .reset := PerBar.get_const _ _
    rw [fresh]
    refine ⟨Place.reset_wf, ?_, nofun⟩
    simp [State.reset, Params.default, BarContext.reset, Place.reset]
  · have fresh : State.reset.needle b n = .reset := by simp [State.needle, State.reset]
    rw [fresh]
    exact NeedleRecord.reset_wf Params.default_wf

/-! ### Arrivals -/

theorem exec_cutWindowExpiry (x y : Bool) (s : State) : exec (.cutWindowExpiry x y) s =
    arrival s (fun s => if s.expiresAt x y then s.countArrival x y else s) := rfl

theorem exec_barStatusMessage (m : StatusMessage) (s : State) :
    exec (.barStatusMessage m) s = arrival s (fun s => (s.removeMessage (.status m)).takeStatus m) := rfl

theorem exec_defectNotice (n : DefectNotice) (s : State) :
    exec (.defectNotice n) s = arrival s (fun s => (s.removeMessage (.notice n)).takeNotice n) := rfl

theorem exec_consumptionNotice (n : ConsumptionNotice) (s : State) :
    exec (.consumptionNotice n) s = arrival s (fun s => (s.removeMessage (.consumption n)).takeConsumption n) := rfl

theorem exec_scanRequest (r : ScanRequest) (s : State) :
    exec (.scanRequest r) s = arrival s (fun s => (s.removeMessage (.scan r)).takeScanRequest r) := rfl

theorem exec_retryCountdownExpiry (n : NeedleNo) (r : ScanRequest) (s : State) :
    exec (.retryCountdownExpiry n r) s = arrival s (fun s =>
      if r.running && (s.needle r.bar n).state = .broken && (s.needle r.bar n).countdown = some 1 then
        (s.removeMessage (.scan r)).takeScanRequest r
      else s) := rfl

/-! ### RESET_N low -/

/-- What a command can do while the part does not operate, but for a start of operation: an input level moves that is not
the supply and starts nothing, or a transaction that the port ignores begins or ends (R157, R172). -/
def State.Silent (s : State) (c : Instr) : Prop :=
  ∃ x ph, exec c s = .next { s with inputs := x, link := { s.link with phase := ph } }
    ∧ x.supply = s.inputs.supply ∧ (x.supply = false ∨ x.resetN = false)
    ∧ (ph = s.link.phase ∨ ph = .ignored ∨ ph = .idle)

theorem State.silent_of_inputs {c : Instr} (idle : s.inputs.supply = false ∨ s.inputs.resetN = false) (x : Inputs)
    (h : exec c s = .next { s with inputs := x }) (supply : x.supply = s.inputs.supply)
    (resetN : x.resetN = s.inputs.resetN) : s.Silent c :=
  ⟨x, s.link.phase, h, supply, by rwa [supply, resetN], .inl rfl⟩

theorem State.silent (idle : s.inputs.supply = false ∨ s.inputs.resetN = false) {c : Instr} (power : c ≠ .powerOn)
    (pin : c = .pinReset → s.inputs.supply = false) : s.Silent c := by
  have off : s.inputs.operates = false := by
    rcases idle with h | h <;> simp [Inputs.operates, h]
  have deaf : ¬ s.takesFrames := fun h => by
    rw [h.1] at off
    cases off
  have phased {ph : LinkPhase} (h : exec c s = .next { s with link := { s.link with phase := ph } })
      (hp : ph = .ignored ∨ ph = .idle) : s.Silent c := ⟨s.inputs, ph, h, rfl, idle, .inr hp⟩
  have ignored (f : State → State) : arrival s f = .next s := arrival_ignored off f
  have level (x : Inputs) := s.silent_of_inputs (c := c) idle x
  have framed {kind tag : Byte} {payload : List Byte} (h : frameOf c = some (kind, tag, payload)) : s.Silent c :=
    phased ((exec_of_frame h s).trans (request_ignored deaf kind tag _)) (.inl rfl)
  cases c
  case powerOn => exact absurd rfl power
  case resetNLow =>
    refine ⟨{ s.inputs with resetN := false }, s.link.phase, ?_, rfl, .inr rfl, .inl rfl⟩
    show execResetNLow s = _
    rw [execResetNLow, off]
    rfl
  case pinReset =>
    have supply := pin rfl
    refine ⟨{ s.inputs with resetN := true }, s.link.phase, ?_, rfl, .inl supply, .inl rfl⟩
    show execPinReset s = _
    rw [execPinReset, supply]
    rfl
  case countArrival x y =>
    refine level { s.inputs with webA := x, webB := y } ?_ rfl rfl
    show execCountArrival x y s = _
    rw [execCountArrival, off]
    rfl
  case cutWindowExpiry x y => exact level s.inputs ((exec_cutWindowExpiry x y s).trans (ignored _)) rfl rfl
  case cutDone =>
    refine level { s.inputs with cutDone := true } ?_ rfl rfl
    show execCutDone s = _
    rw [execCutDone, off]
    rfl
  case freeze asserted => exact level _ rfl rfl rfl
  case driveFault b asserted => exact level _ rfl rfl rfl
  case strokeEvent b =>
    refine level { s.inputs with stroke := true } ?_ rfl rfl
    show execStrokeEvent b s = _
    rw [execStrokeEvent, off]
    rfl
  case linkTransactionStart =>
    refine phased (ph := .ignored) ?_ (.inl rfl)
    show execLinkTransactionStart s = _
    rw [execLinkTransactionStart, off]
    rfl
  case frameError bits =>
    refine phased (ph := .idle) ?_ (.inr rfl)
    show execFrameError bits s = _
    rw [execFrameError, State.receiving, State.listening, off]
    rfl
  case strokeFall => exact level _ rfl rfl rfl
  case cutDoneFall => exact level _ rfl rfl rfl
  case selectEcho b echo => exact level s.inputs (ignored (fun s => s.takeEcho b echo)) rfl rfl
  case barStatusMessage m => exact level s.inputs ((exec_barStatusMessage m s).trans (ignored _)) rfl rfl
  case defectNotice n => exact level s.inputs ((exec_defectNotice n s).trans (ignored _)) rfl rfl
  case consumptionNotice n => exact level s.inputs ((exec_consumptionNotice n s).trans (ignored _)) rfl rfl
  case scanRequest r => exact level s.inputs ((exec_scanRequest r s).trans (ignored _)) rfl rfl
  case retryCountdownExpiry n r => exact level s.inputs ((exec_retryCountdownExpiry n r s).trans (ignored _)) rfl rfl
  case scanDataArrival b channels => exact level s.inputs (ignored (fun s => s.takeScanData b channels)) rfl rfl
  all_goals exact framed rfl

/-- Settles O5: the fall of RESET_N by its definition; while the part does not operate, the outputs by `outputs_idle` and
the commands by `State.silent`. -/
theorem resetLowSilencesPart : Obligations.ResetLowSilencesPart := by
  refine ⟨fun s operates => ⟨s.dropOperations, ?_, rfl, fun b => PerBar.get_map _ _ _, rfl, rfl,
    LinkPhase.atStart_of_ne_idle⟩, fun s idle => ?_⟩
  · show execResetNLow s = _
    rw [execResetNLow, if_pos operates]
  have off : s.inputs.operates = false := by
    rcases idle with h | h <;> simp [Inputs.operates, h]
  have deaf : ¬ s.takesFrames := fun h => by
    rw [h.1] at off
    cases off
  obtain ⟨cut, lines, line, drive, bit, select, scan⟩ := outputs_idle off
  refine ⟨⟨cut, lines, line, fun b => ⟨drive b, bit b, select b, scan b⟩⟩, fun c power pin => State.silent idle power pin,
    fun b level => ⟨rfl, rfl⟩, ?_, fun kind tag payload => request_ignored deaf kind tag _, fun bits => ?_⟩
  · show execLinkTransactionStart s = _
    rw [execLinkTransactionStart, off]
    rfl
  · show execFrameError bits s = _
    rw [execFrameError, State.receiving, State.listening, off]
    rfl

end Sys2Proof.Machine
end

section
/-! PROOF. The web tracker and the arrivals of W: what an arrival moves, what it raises, and how it judges starvation
(R1 to R5, R40, R55). -/

namespace Sys2Proof.Machine

variable {s : State}

/-- Settles O20: `Store.Recounted` of the two messages. -/
theorem recordReferencesCounted : Obligations.RecordReferencesCounted := by
  intro st r uses widths
  have added := st.addRecord_recounted r
  have released := st.releaseRecord_recounted r
  refine ⟨fun p => ?_, fun p => ?_, fun n => ?_, fun n => ?_, added.entries, added.owner, released.entries,
    released.owner⟩
  · rw [added.patterns, iterate_succ]
    rfl
  · rw [released.patterns, iterate_pred]
    rfl
  · rw [added.sets, iterate_succ]
    rfl
  · rw [released.sets, iterate_pred]
    rfl

/-! ### Distances and phases -/

/-- The web distance of two true positions within 2^31 (R5). -/
theorem webDist_ofInt {a b : Int} (h : -2147483648 ≤ a - b) (h' : a - b < 2147483648) :
    webDist (BitVec.ofInt 32 a) (BitVec.ofInt 32 b) = a - b := by
  simpa using webDist_add_ofInt 0 h h'

theorem State.phase_waiting_iff {r : PanelRecord} : s.phase r = .waiting ↔ webDist s.w r.head < 0 := by
  unfold State.phase
  split_ifs <;> simp_all

/-- Settles O7: the three distances of `State.phase` are exact. -/
theorem phaseFollowsWeb : Obligations.PhaseFollowsWeb := by
  intro s r w h params wf hw hh low high
  obtain ⟨-, -, offC, offK, most⟩ := params.offsets
  have length := wf.length
  have atWeb : webDist s.w r.head = w - h := by
    rw [hw, hh]
    exact webDist_ofInt (by omega) (by omega)
  have behind (off : Nat) (hoff : off ≤ 1000000) : webDist (s.w - BitVec.ofNat 32 off) r.head = w - off - h := by
    rw [hw, hh, ofNat_eq_ofInt, ← ofInt_sub]
    exact webDist_ofInt (by omega) (by omega)
  have atC : webDist (s.linePosition .C) r.head = w - s.params.offC - h := behind s.params.offC (by omega)
  have atK : webDist s.cutterPosition r.head = w - s.params.offK - h := behind _ (by omega)
  unfold State.phase
  rw [atWeb, atC, atK]
  refine ⟨?_, ?_, ?_, ?_⟩ <;> split_ifs <;> simp <;> omega

/-! ### States that differ in a few fields -/

theorem State.ext_fields {t : State} (pending : t.pending = s.pending) (inputs : t.inputs = s.inputs) (w : t.w = s.w)
    (params : t.params = s.params) (store : t.store = s.store) (table : t.table = s.table) (cutter : t.cutter = s.cutter)
    (bars : t.bars = s.bars) (needles : t.needles = s.needles) (scans : t.scans = s.scans) (events : t.events = s.events)
    (masks : t.masks = s.masks) (link : t.link = s.link) (messages : t.messages = s.messages)
    (strokesDue : t.strokesDue = s.strokesDue) (choices : t.choices = s.choices) : t = s := by
  cases s
  cases t
  simp_all

/-- What a W arrival writes: the table, the cutter sequence, the store and the events (R4). -/
theorem State.wArrival_frame (s : State) : s.wArrival = { s with
    table := s.wArrival.table
    cutter := s.wArrival.cutter
    store := s.wArrival.store
    events := s.wArrival.events } := by
  apply State.ext_fields <;> simp

/-! ### What a W arrival raises -/

theorem State.settle_event (head : Word) (b : Bar) {e : Sticky} (he : e ≠ .panelDefect) :
    (s.settle head b).event e = s.event e := by
  unfold State.settle
  dsimp only
  split
  · rfl
  · split
    · exact State.fold_event_of_ne he _ _ _ _
    · exact State.fold_event_of_ne he _ _ _ _
    · rfl

theorem State.makePending_event (n : CutterState) {e : Sticky} (he : e ≠ .panelDefect) :
    (s.makePending n).event e = s.event e := by
  unfold State.makePending
  split
  · rfl
  · simp only [Bar.all, List.foldl_cons, List.foldl_nil, State.settle_event _ _ he]
    rfl

theorem State.retire_event (o : CutOutcome) {e : Sticky} (he : e ≠ .panelRetired) :
    (s.retire o).event e = s.event e := by
  rcases records : s.table.records with - | ⟨r, rest⟩
  · rw [State.retire, records]
  · rw [State.retire_front records]
    exact State.event_raise_of_ne _ _ he

theorem State.missCut_event (o : CutOutcome) {e : Sticky} (hm : e ≠ .cutMissed) (hr : e ≠ .panelRetired)
    (hd : e ≠ .panelDefect) : (s.missCut o).event e = s.event e := by
  unfold State.missCut
  split
  · rfl
  · rw [State.retire_event o hr, State.event_raise_of_ne _ _ hm, State.fold_event_of_ne hd]

/-- An arrival in which a record may be retired and another's cut become pending raises nothing else (R135). -/
theorem State.cutPoint_event {e : Sticky} (hm : e ≠ .cutMissed) (hr : e ≠ .panelRetired) (hd : e ≠ .panelDefect) :
    s.cutPoint.event e = s.event e := by
  have tested : s.tested.event e = s.event e := by
    have asserted : s.assertRequest.event e = s.event e := by simp [State.event]
    rcases s.tested_cases with same | ⟨o, missed⟩
    · rw [same, asserted]
    · rw [missed, State.missCut_event o hm hr hd, asserted]
  rw [State.cutPoint_eq]
  split
  · rw [State.makePending_event _ hd, tested]
  · exact tested

/-! ### Starvation -/

theorem State.starvationCondition_iff : s.starvationCondition = true ↔ Starves s.params s.w s.table.records := by
  unfold State.starvationCondition Starves
  split
  · rename_i none
    simp [none]
  · rename_i newest some
    simp only [some, Option.some.injEq, exists_eq_left', Bool.and_eq_true, List.all_eq_true, decide_eq_true_eq, ne_eq,
      State.phase_waiting_iff, not_lt]
    rfl

/-- A W arrival judges starvation, and raises STARVE when that turns to starving (R55). -/
theorem State.wArrival_starvesBy {u : State} (starving : u.table.starving = s.table.starving)
    (event : u.event .starve = s.event .starve) : s.StarvesBy u.wArrival := by
  have judged : u.wArrival.table.starving = u.cutPoint.starvationCondition := by
    simp [State.wArrival]
  have raised : u.wArrival.event .starve
      = if u.cutPoint.starvationCondition && !u.table.starving then (u.event .starve).raise none else u.event .starve := by
    have before : u.cutPoint.restarve.event .starve = u.event .starve :=
      State.cutPoint_event (by decide) (by decide) (by decide)
    have stored : u.cutPoint.restarve.table.starving = u.cutPoint.starvationCondition := rfl
    rw [State.wArrival, stored, State.event_raiseIf, before]
    simp
  refine ⟨?_, ?_⟩
  · rw [judged, State.starvationCondition_iff, State.wArrival_params, State.wArrival_w, State.cutPoint_params,
      State.cutPoint_w, (State.wArrival_cutPoint u).2.1]
  · rw [raised, judged, event, starving]
    simp only [Bool.and_eq_true, Bool.not_eq_true']
    rfl

/-! ### Counts -/

theorem exec_countArrival (operates : s.inputs.operates = true) (x y : Bool) :
    exec (.countArrival x y) s = .next (s.countArrival x y) := by
  show execCountArrival x y s = _
  rw [execCountArrival, if_pos operates]

/-- A pair that makes a count is a W arrival (R2, R4). -/
theorem State.countArrival_of_moves {x y : Bool} (h : s.countStep x y = .forward ∨ s.countStep x y = .backward) :
    s.countArrival x y = (s.takePair x y).wArrival := by
  unfold State.countArrival
  rcases h with h | h <;> rw [h]

/-- An arrival at a pair judges starvation against the state before it (log 15). -/
theorem State.takePair_starvesBy (x y : Bool) : s.StarvesBy (s.takePair x y).wArrival :=
  State.wArrival_starvesBy (by simp) (by simp [State.event])

theorem decodePair_cases (a b : Bool) : decodePair (a, b) (!b, a) = .forward ∧ decodePair (a, b) (b, !a) = .backward
    ∧ decodePair (a, b) (!a, !b) = .illegal ∧ decodePair (a, b) (a, b) = .unchanged := by
  revert a b
  decide

/-- Settles O6: the four pairs by the decoding table, and what a W arrival writes. -/
theorem countArrivals : Obligations.CountArrivals := by
  intro s operates a b paired moves
  obtain ⟨forward, backward, illegal, same⟩ := decodePair_cases a b
  have steps {x y : Bool} {w : Word} (h : s.countStep x y = .forward ∨ s.countStep x y = .backward)
      (taken : s.takePair x y = (s.setPair x y).setW w) : moves x y w := by
    refine ⟨_, exec_countArrival operates x y, ?_⟩
    rw [State.countArrival_of_moves h, taken]
    exact State.wArrival_frame _
  refine ⟨steps (.inl forward) ?_, steps (.inr backward) ?_, ?_, ?_⟩
  · rw [State.takePair, show s.countStep (!b) a = .forward from forward]
  · rw [State.takePair, show s.countStep b (!a) = .backward from backward]
  · have step : s.countStep (!a) (!b) = .illegal := illegal
    rw [exec_countArrival operates, State.countArrival, step]
    simp only [State.takePair, step]
    rfl
  · have step : s.countStep a b = .unchanged := same
    rw [exec_countArrival operates, State.countArrival, step]

/-! ### An arrival with no cut to be made -/

/-- The position W takes by a pair that makes a count (R2). -/
theorem State.takePair_of_moves {x y : Bool} (h : s.countStep x y = .forward ∨ s.countStep x y = .backward) :
    s.takePair x y = (s.setPair x y).setW (if s.countStep x y = .forward then s.w + 1 else s.w - 1) := by
  unfold State.takePair
  rcases h with h | h <;> simp [h]

/-- A record is not DUE exactly when one of its distances says so (R40). -/
theorem State.phase_due_iff {r : PanelRecord} : s.phase r = .due ↔ ¬ (webDist s.cutterPosition r.head < r.length
    ∨ webDist s.w r.head < 0 ∨ webDist (s.linePosition .C) r.head < r.length) := by
  unfold State.phase
  split_ifs <;> simp_all

/-- Settles O18: an arrival with no cut pending and none becoming due leaves the table, and starvation is judged. -/
theorem arrivalJudgesStarvation : Obligations.ArrivalJudgesStarvation := by
  intro s x y operates moves idle w quiet
  have taken := State.takePair_of_moves moves
  have notDue : (s.takePair x y).frontDue (s.takePair x y).table.records = false := by
    rw [State.takePair_table]
    unfold State.frontDue
    split
    · rfl
    · rename_i r rest records
      rw [decide_eq_false_iff_not, State.phase_due_iff, not_not, taken]
      exact quiet r (by rw [records]; rfl)
  have unmoved : (s.takePair x y).cutPoint = s.takePair x y := State.cutPoint_idle (by simpa using idle) notDue
  refine ⟨(s.takePair x y).starvationCondition, ?_, ?_⟩
  · rw [State.starvationCondition_iff, taken]
    rfl
  · rw [exec_countArrival operates, State.countArrival_of_moves moves, State.wArrival, unmoved]
    unfold State.restarve
    generalize (s.takePair x y).starvationCondition = starving
    rw [taken]
    unfold State.raiseIf
    by_cases rises : starving = true ∧ s.table.starving = false
    · rw [if_pos rises, if_pos (by simpa using rises)]
      rfl
    · rw [if_neg rises, if_neg (by simpa using rises)]
      rfl

end Sys2Proof.Machine
end

section
/-! PROOF. The cutter sequence: a cut becoming pending, the acknowledge, the window and the forced cut (chapter 7). -/

namespace Sys2Proof.Machine

variable {s : State} {r : PanelRecord} {rest : List PanelRecord}

/-! ### Settling a record -/

/-- The status of a bar after its panel's cut has become pending (R137). -/
def BarStatus.settled : BarStatus → BarStatus
  | .notReached => .skipped
  | .sewing => .short
  | st => st

/-- What settling one bar makes of a record, by the mark folded for it, if any (R137). -/
theorem PanelRecord.settled_eq (r : PanelRecord) (b : Bar) (y : Int) : r.settled b y = { r with
    bars := r.bars.set b { r.bars.get b with
      status := (r.bars.get b).status.settled
      defects := (r.bars.get b).defects ||| ((r.pendingMark b).map DefectKind.bit).getD 0 }
    defects := r.defects ||| ((r.pendingMark b).map DefectKind.bit).getD 0
    notices := if (r.pendingMark b).isSome then min (r.notices + 1) 65535 else r.notices
    first := r.first.or ((r.pendingMark b).map (fun k => ⟨k, some b, y⟩)) } := by
  unfold PanelRecord.settled PanelRecord.pendingMark
  cases status : (r.bars.get b).status with
  | notReached =>
    simp only [PanelRecord.fold, PanelRecord.setStatus, PanelRecord.addBarDefects, PerBar.get_set_self,
      Option.map_some, Option.getD_some, Option.isSome_some, if_true]
    cases b <;> rfl
  | sewing =>
    simp only [PanelRecord.fold, PanelRecord.setStatus, PanelRecord.addBarDefects, PerBar.get_set_self,
      Option.map_some, Option.getD_some, Option.isSome_some, if_true]
    cases b <;> rfl
  | absent | done | short | skipped =>
    have kept : r.bars.set b { r.bars.get b with
        status := (r.bars.get b).status
        defects := (r.bars.get b).defects ||| 0 } = r.bars := by
      simp only [BitVec.ofNat_eq_ofNat, BitVec.or_zero]
      exact PerBar.set_get _ _
    rw [status] at kept
    simp only [BarStatus.settled, Option.map_none, Option.getD_none, Option.isSome_none, kept]
    simp

/-- Settling one bar leaves the marks of the others. -/
theorem PanelRecord.pendingMark_settled_of_ne {b c : Bar} (h : c ≠ b) (y : Int) :
    (r.settled b y).pendingMark c = r.pendingMark c := by
  rw [PanelRecord.settled_eq]
  simp only [PanelRecord.pendingMark, PerBar.get_set_of_ne _ _ h]

/-- The record at the front after its cut has become pending, bars A, B and C settled in turn (R136, R137). -/
def PanelRecord.settledAll (r : PanelRecord) (y : Bar → Int) : PanelRecord :=
  (({ r with cutPending := true }.settled .A (y .A)).settled .B (y .B)).settled .C (y .C)

theorem PanelRecord.settledAll_eq (r : PanelRecord) (y : Bar → Int) : ∃ bars : PerBar PanelBar,
    (∀ b, bars.get b = { r.bars.get b with
      status := (r.bars.get b).status.settled
      defects := (r.bars.get b).defects ||| ((r.pendingMark b).map DefectKind.bit).getD 0 })
    ∧ r.settledAll y = { r with
      cutPending := true
      bars := bars
      defects := Bar.all.foldl (fun d b => d ||| ((r.pendingMark b).map DefectKind.bit).getD 0) r.defects
      notices := Bar.all.foldl (fun n b => if (r.pendingMark b).isSome then min (n + 1) 65535 else n) r.notices
      first := r.first.or (Bar.all.findSome? (fun b => (r.pendingMark b).map (fun k => ⟨k, some b, y b⟩))) } := by
  have markB := PanelRecord.pendingMark_settled_of_ne (r := { r with cutPending := true }) (b := .A) (c := .B)
    (by decide) (y .A)
  have markC := (PanelRecord.pendingMark_settled_of_ne (r := { r with cutPending := true }.settled .A (y .A)) (b := .B)
    (c := .C) (by decide) (y .B)).trans
    (PanelRecord.pendingMark_settled_of_ne (b := .A) (c := .C) (by decide) (y .A))
  have mark (b : Bar) : { r with cutPending := true }.pendingMark b = r.pendingMark b := rfl
  have firsts : ((r.first.or ((r.pendingMark .A).map (fun k => ⟨k, some .A, y .A⟩))).or
      ((r.pendingMark .B).map (fun k => ⟨k, some .B, y .B⟩))).or ((r.pendingMark .C).map (fun k => ⟨k, some .C, y .C⟩))
      = r.first.or (Bar.all.findSome? (fun b => (r.pendingMark b).map (fun k => ⟨k, some b, y b⟩))) := by
    simp only [Bar.all, Option.or_assoc, List.findSome?_cons, List.findSome?_nil]
    cases r.pendingMark .A <;> cases r.pendingMark .B <;> cases r.pendingMark .C <;> rfl
  unfold PanelRecord.settledAll
  rw [PanelRecord.settled_eq _ .C, markC, PanelRecord.settled_eq _ .B, markB, PanelRecord.settled_eq _ .A, ← firsts]
  exact ⟨_, fun b => by cases b <;> rfl, rfl⟩

theorem PanelRecord.settledAll_settles (r : PanelRecord) (y : Bar → Int) : r.Settles (r.settledAll y) y := by
  obtain ⟨bars, settled, eq⟩ := r.settledAll_eq y
  rw [eq]
  refine ⟨fun b => (settled b).trans ?_, rfl⟩
  cases (r.bars.get b).status <;> rfl

/-! ### PANEL_DEFECT at a settlement -/

theorem PanelRecord.settled_first (r : PanelRecord) (b : Bar) (y : Int) :
    (r.settled b y).first = r.first.or ((r.pendingMark b).map (fun k => ⟨k, some b, y⟩)) := by
  rw [PanelRecord.settled_eq]

theorem PanelRecord.settled_tag (r : PanelRecord) (b : Bar) (y : Int) : (r.settled b y).tag = r.tag := by
  rw [PanelRecord.settled_eq]

/-- Settling a bar raises PANEL_DEFECT when it folds the record's first mark (R52, R137). -/
theorem State.settle_panelDefect (ht : s.table.records = r :: rest) (b : Bar) :
    (s.settle r.head b).event .panelDefect = if r.first = none ∧ r.pendingMark b ≠ none then
      raised (s.event .panelDefect) (.tag r.tag) else s.event .panelDefect := by
  have folded (status : BarStatus) (k : DefectKind) (y : Int) (hk : (lowestKind k.bit).isSome = true) :
      ((s.updateRecord r.head (·.setStatus b status)).fold r.head (some b) k.bit y).event .panelDefect
        = if r.first = none then raised (s.event .panelDefect) (.tag r.tag) else s.event .panelDefect := by
    have front : (s.updateRecord r.head (·.setStatus b status)).table.records = r.setStatus b status :: rest := by
      simp [State.updateRecord, ht, updateHead]
    have fold := State.fold_front front (some b) k.bit y
    rw [show (r.setStatus b status).head = r.head from rfl] at fold
    have front_first : (r.setStatus b status).first = r.first := rfl
    have event (t : State) (records : List PanelRecord) : (t.setRecords records).event = t.event := rfl
    have updated : (s.updateRecord r.head (·.setStatus b status)).event = s.event := rfl
    rw [fold, State.event_raiseIf, hk, front_first]
    simp only [event, updated]
    cases r.first <;> rfl
  unfold State.settle PanelRecord.pendingMark
  rw [State.findRecord_front ht]
  cases status : (r.bars.get b).status with
  | notReached =>
    simp only [status, ne_eq, reduceCtorEq, not_false_eq_true, and_true]
    exact folded .skipped .barSkipped _ (by decide)
  | sewing =>
    simp only [status, ne_eq, reduceCtorEq, not_false_eq_true, and_true]
    exact folded .short .barShort _ (by decide)
  | absent | done | short | skipped => simp [status]

/-- The cut of the record at the front becomes pending: the record settled, and PANEL_DEFECT raised at its first defect
(R136, R137). -/
theorem State.makePending_settles (ht : s.table.records = r :: rest) (n : CutterState) :
    (s.makePending n).cutter = { s.cutter with state := n, pendingHead := some r.head }
      ∧ (s.makePending n).table.records = r.settledAll (fun b => webDist (s.linePosition b) r.head) :: rest
      ∧ (r.SettlesFirst → (s.makePending n).event .panelDefect = raised (s.event .panelDefect) (.tag r.tag))
      ∧ (¬ r.SettlesFirst → (s.makePending n).event .panelDefect = s.event .panelDefect) := by
  obtain ⟨cutter, records⟩ := State.makePending_front ht n
  refine ⟨cutter, records, ?_⟩
  obtain ⟨t, hfront, hevent, hpending⟩ : ∃ t : State, t.table.records = { r with cutPending := true } :: rest
      ∧ t.event = s.event ∧ s.makePending n = ((t.settle r.head .A).settle r.head .B).settle r.head .C := by
    refine ⟨{ s with
      cutter := { s.cutter with state := n, pendingHead := some r.head }
      table := { s.table with records := { r with cutPending := true } :: rest } }, rfl, rfl, ?_⟩
    rw [State.makePending, ht]
    rfl
  have first := State.settle_panelDefect hfront .A
  have frontA := State.settle_front hfront .A
  have second := State.settle_panelDefect frontA .B
  have frontB := State.settle_front frontA .B
  have third := State.settle_panelDefect frontB .C
  simp only [PanelRecord.settled_head, PanelRecord.settled_tag, PanelRecord.settled_first, Option.or_eq_none_iff,
    Option.map_eq_none_iff, ne_eq] at second third
  rw [PanelRecord.pendingMark_settled_of_ne (by decide)] at second third
  rw [PanelRecord.pendingMark_settled_of_ne (by decide), PanelRecord.pendingMark_settled_of_ne (by decide)] at third
  have mark (b : Bar) : { r with cutPending := true }.pendingMark b = r.pendingMark b := rfl
  simp only [mark] at first second third
  rw [hpending, third, second, first, hevent]
  have marks : (∃ b, r.pendingMark b ≠ none)
      ↔ r.pendingMark .A ≠ none ∨ r.pendingMark .B ≠ none ∨ r.pendingMark .C ≠ none :=
    ⟨fun ⟨b, h⟩ => by cases b <;> tauto, by rintro (h | h | h) <;> exact ⟨_, h⟩⟩
  unfold PanelRecord.SettlesFirst
  rw [marks]
  constructor
  · rintro ⟨none_yet, h⟩
    by_cases hA : r.pendingMark .A = none <;> by_cases hB : r.pendingMark .B = none <;> simp_all
  · intro h
    by_cases none_yet : r.first = none <;> simp_all

end Sys2Proof.Machine
end

section
/-! PROOF. The cutter obligations: a cut becoming pending, the acknowledge, the window and the forced cut (chapter 7). -/

namespace Sys2Proof.Machine

variable {s : State} {r : PanelRecord} {rest : List PanelRecord}

/-! ### The state after a pair has been taken -/

@[simp] theorem State.takePair_operates (x y : Bool) : (s.takePair x y).inputs.operates = s.inputs.operates := by
  unfold State.takePair
  split <;> rfl

theorem State.takePair_event (x y : Bool) : (s.takePair x y).event = s.event := by
  funext e
  simp [State.event]

theorem State.frontDue_eq_false_iff : s.frontDue rest = false ↔ ∀ q ∈ rest.head?, s.phase q ≠ .due := by
  cases rest <;> simp [State.frontDue]

theorem State.frontDue_eq_true_iff : s.frontDue rest = true ↔ ∃ q ∈ rest.head?, s.phase q = .due := by
  cases rest <;> simp [State.frontDue]

/-- Whether a record is DUE depends on W and the parameters alone (R40). -/
theorem State.frontDue_congr {t : State} (w : t.w = s.w) (params : t.params = s.params) :
    t.frontDue rest = s.frontDue rest := by
  unfold State.frontDue State.phase State.linePosition State.cutterPosition
  rw [w, params]

/-! ### A DUE record at the front with no cut pending -/

/-- Settles O9: at the cut point the record at the front is settled bar by bar. -/
theorem cutBecomesPending : Obligations.CutBecomesPending := by
  intro s x y r rest operates moves idle records due u
  have front : u.table.records = r :: rest := by
    rw [State.takePair_table, records]
  have pending : u.cutPoint = u.makePending .requesting := by
    refine State.cutPoint_due ?_ ?_
    · rw [State.takePair_cutter, idle]
    · rw [front, State.frontDue]
      exact decide_eq_true due
  obtain ⟨cutter, table, store⟩ := u.wArrival_cutPoint
  obtain ⟨settled, settledRecords, first, later⟩ := State.makePending_settles front .requesting
  have events : u.event = s.event := State.takePair_event x y
  have event {e : Sticky} (he : e ≠ .starve) : u.wArrival.event e = (u.makePending .requesting).event e := by
    rw [State.wArrival_event u he, pending]
  have cutter' : u.wArrival.cutter = { s.cutter with state := .requesting, pendingHead := some r.head } := by
    rw [cutter, pending, settled, State.takePair_cutter]
  refine ⟨u.wArrival, _, ?_, cutter', ?_, ?_, r.settledAll_settles _, ?_, s.takePair_starvesBy x y, ?_, ?_, ?_⟩
  · rw [exec_countArrival operates, State.countArrival_of_moves moves]
  · rw [State.cutRequest, cutter']
    simp [u, operates]
  · rw [table, pending, settledRecords]
  · have unreleased : u.wArrival.store = u.store := by
      rw [store, pending, State.makePending_store]
    exact u.wArrival_frame.trans (by rw [unreleased])
  · intro h
    rw [event (by decide), first h, events]
  · intro h
    rw [event (by decide), later h, events]
  · intro e hd hs
    rw [event hs, State.makePending_event _ hd, events]

/-! ### The acknowledge -/

/-- Settles O10: an edge in REQUESTING is a retirement of the record at the front, any other is stray. -/
theorem cutDoneEdges : Obligations.CutDoneEdges := by
  intro s operates
  have edge (low : s.inputs.cutDone = false) : exec .cutDone s = .next (s.setCutDone true).acknowledgeCut := by
    show execCutDone s = _
    rw [execCutDone, operates, low]
    rfl
  refine ⟨?_, ?_, ?_, rfl, rfl⟩
  · intro r rest low requesting records
    have acknowledged : (s.setCutDone true).acknowledgeCut = _ :=
      (if_pos requesting).trans (State.retire_front (s := s.setCutDone true) records .cut)
    refine ⟨({ s with table := { s.table with records := rest } } : State).starvationCondition,
      State.starvationCondition_iff, _, edge low, ?_, ?_⟩
    · rw [acknowledged]
      rfl
    · rw [acknowledged]
      exact Bool.and_false _
  · intro low stray
    rw [edge low, State.acknowledgeCut, if_neg (show (s.setCutDone true).cutter.state ≠ _ from stray)]
    rfl
  · intro high
    have kept : s.setCutDone true = s := by
      rw [State.setCutDone, ← high]
    show execCutDone s = _
    rw [execCutDone, high, kept]
    simp

/-! ### The cut point with a cut pending -/

theorem State.tested_pending (hc : s.cutter.state ≠ .idle) (ht : s.table.records = r :: rest) :
    s.tested = if s.frontDue rest then s.assertRequest.missCut .forced
      else if s.windowReached r then s.assertRequest.missCut .window else s.assertRequest := by
  have records : s.assertRequest.table.records = r :: rest := by
    rw [State.assertRequest_table, ht]
  have requesting : s.assertRequest.cutter.state = .requesting := by
    rw [State.assertRequest_state hc]
  have due : s.assertRequest.frontDue rest = s.frontDue rest := State.frontDue_congr (by simp) (by simp)
  have window : s.assertRequest.windowReached r = s.windowReached r := by
    unfold State.windowReached State.cutterPosition
    simp
  rw [State.tested, if_pos requesting, State.testPending, records]
  simp only [due, window]

/-- A missed cut raises PANEL_DEFECT when CUT_MISSED is the first mark of the record (R52, R141). -/
theorem State.missCut_panelDefect (ht : s.table.records = r :: rest) (o : CutOutcome) :
    (r.first = none → (s.missCut o).event .panelDefect = raised (s.event .panelDefect) (.tag r.tag))
      ∧ (r.first ≠ none → (s.missCut o).event .panelDefect = s.event .panelDefect) := by
  have folded : (s.missCut o).event .panelDefect
      = (s.fold r.head none DefectKind.cutMissed.bit (webDist s.cutterPosition r.head)).event .panelDefect := by
    rw [State.missCut, ht]
    exact (State.retire_event _ (by decide)).trans (State.event_raise_of_ne _ _ (by decide))
  have event (t : State) (records : List PanelRecord) : (t.setRecords records).event = t.event := rfl
  rw [folded, State.fold_front ht, State.event_raiseIf, event]
  constructor
  · intro none_yet
    rw [none_yet]
    rfl
  · intro already
    obtain ⟨d, hd⟩ := Option.ne_none_iff_exists'.mp already
    rw [hd]
    rfl

/-- The summary of a record whose cut was missed (R141, R143). -/
def PanelRecord.missed (r : PanelRecord) (o : CutOutcome) (at_ w : Word) : Summary where
  tag := r.tag
  head := r.head
  length := r.length
  policy := r.policy
  aborted := r.aborted
  bars := r.bars.map (fun b => { pattern := b.pattern, status := b.status, defects := b.defects })
  defects := r.defects ||| DefectKind.cutMissed.bit
  notices := min (r.notices + 1) 65535
  first := r.first.or (some ⟨.cutMissed, none, webDist at_ r.head⟩)
  outcome := o
  w := w

/-- The pending cut is missed at an arrival: the record at the front is retired, and what is raised for it (R141). -/
structure State.Misses (s t : State) (r : PanelRecord) (rest : List PanelRecord) (o : CutOutcome) : Prop where
  cutter : t.cutter = ⟨.idle, none, some (r.missed o s.cutterPosition s.w), s.cutter.retirements + 1⟩
  records : t.table.records = rest
  store : t.store = s.store.releaseRecord r
  w : t.w = s.w
  params : t.params = s.params
  cutMissed : t.event .cutMissed = raised (s.event .cutMissed) (.tag r.tag)
  panelRetired : t.event .panelRetired = raised (s.event .panelRetired) (.tag r.tag)
  firstMark : r.first = none → t.event .panelDefect = raised (s.event .panelDefect) (.tag r.tag)
  laterMark : r.first ≠ none → t.event .panelDefect = s.event .panelDefect
  others : ∀ e, e ≠ .cutMissed → e ≠ .panelRetired → e ≠ .panelDefect → t.event e = s.event e

theorem State.missCut_misses (ht : s.table.records = r :: rest) (o : CutOutcome) :
    s.Misses (s.assertRequest.missCut o) r rest o := by
  have asserted : s.assertRequest.table.records = r :: rest := by
    rw [State.assertRequest_table, ht]
  have event : s.assertRequest.event = s.event := by
    funext e
    simp [State.event]
  have position : s.assertRequest.cutterPosition = s.cutterPosition := by
    simp [State.cutterPosition]
  have retirements : s.assertRequest.cutter.retirements = s.cutter.retirements := by
    unfold State.assertRequest
    split <;> rfl
  obtain ⟨cutter, records, store, cutMissed, panelRetired⟩ := State.missCut_front asserted o
  obtain ⟨firstMark, laterMark⟩ := State.missCut_panelDefect asserted o
  rw [position, retirements, State.assertRequest_w] at cutter
  rw [event] at cutMissed panelRetired firstMark laterMark
  exact {
    cutter := cutter
    records := records
    store := store.trans (by rw [State.assertRequest_store])
    w := by simp
    params := by simp
    cutMissed := cutMissed
    panelRetired := panelRetired
    firstMark := firstMark
    laterMark := laterMark
    others := fun e hm hr hd => by rw [State.missCut_event o hm hr hd, event] }

theorem State.cutPoint_forced {q : PanelRecord} {more : List PanelRecord} (hc : s.cutter.state ≠ .idle)
    (ht : s.table.records = r :: q :: more) (due : s.phase q = .due) :
    s.cutPoint = (s.assertRequest.missCut .forced).makePending .rearming := by
  have misses := State.missCut_misses ht .forced
  have front : s.frontDue (q :: more) = true := by
    rw [State.frontDue]
    exact decide_eq_true due
  rw [State.cutPoint_eq, State.tested_pending hc ht, if_pos front, misses.cutter, misses.records,
    State.frontDue_congr misses.w misses.params, front, if_neg hc]
  rfl

theorem State.cutPoint_window (hc : s.cutter.state ≠ .idle) (ht : s.table.records = r :: rest)
    (notDue : s.frontDue rest = false) (window : s.windowReached r = true) :
    s.cutPoint = s.assertRequest.missCut .window := by
  have misses := State.missCut_misses ht .window
  rw [State.cutPoint_eq, State.tested_pending hc ht, notDue, if_neg Bool.false_ne_true, if_pos window, misses.records,
    State.frontDue_congr misses.w misses.params, notDue, Bool.and_false, if_neg Bool.false_ne_true]

theorem State.cutPoint_open (hc : s.cutter.state ≠ .idle) (ht : s.table.records = r :: rest)
    (notDue : s.frontDue rest = false) (window : s.windowReached r = false) : s.cutPoint = s.assertRequest := by
  have requesting : s.assertRequest.cutter.state = .requesting := by
    rw [State.assertRequest_state hc]
  rw [State.cutPoint_eq, State.tested_pending hc ht, notDue, if_neg Bool.false_ne_true, window,
    if_neg Bool.false_ne_true, requesting]
  rfl

/-! ### The window -/

theorem State.windowReached_iff : s.windowReached r = true
    ↔ (s.params.cutWindow : Int) ≤ webDist (s.w - BitVec.ofNat 32 s.params.offK - BitVec.ofNat 32 r.length) r.head :=
  decide_eq_true_iff

theorem State.windowReached_eq_false_iff : s.windowReached r = false
    ↔ webDist (s.w - BitVec.ofNat 32 s.params.offK - BitVec.ofNat 32 r.length) r.head < s.params.cutWindow := by
  rw [← Bool.not_eq_true, State.windowReached_iff, not_le]

/-- CUT_WINDOW_EXPIRY at a pair that does not find the window expired (log 6). -/
theorem exec_cutWindowExpiry_of_not {x y : Bool} (operates : s.inputs.operates = true)
    (h : s.expiresAt x y = false) : exec (.cutWindowExpiry x y) s = .next s := by
  rw [exec_cutWindowExpiry, arrival_next operates, h]
  rfl

/-- Settles O11: the pending record's cut is missed at the arrival. -/
theorem windowExpiryRetires : Obligations.WindowExpiryRetires := by
  intro s x y operates moves u end_
  have sameTable : u.table = s.table := State.takePair_table s x y
  have sameCutter : u.cutter = s.cutter := State.takePair_cutter s x y
  have sameParams : u.params = s.params := State.takePair_params s x y
  have expires (r rest) (records : s.table.records = r :: rest) : s.expiresAt x y
      = ((decide (s.countStep x y = .forward) || decide (s.countStep x y = .backward)) && s.cutter.state != .idle
        && (!u.frontDue rest && u.windowReached r)) := by
    show (_ && u.cutter.state != .idle && match u.table.records with
      | [] => false
      | r :: rest => !u.frontDue rest && u.windowReached r) = _
    rw [sameTable, sameCutter, records]
  refine ⟨?_, ?_, ?_⟩
  · intro r rest hm pending records notDue window
    have front : u.table.records = r :: rest := by
      rw [sameTable, records]
    have reached : u.windowReached r = true := by
      rw [State.windowReached_iff, sameParams]
      exact window
    have next : u.frontDue rest = false := State.frontDue_eq_false_iff.mpr notDue
    have missed : u.cutPoint = u.assertRequest.missCut .window :=
      State.cutPoint_window (by rw [sameCutter]; exact pending) front next reached
    have misses := State.missCut_misses front .window
    have events : u.event = s.event := State.takePair_event x y
    rw [← missed] at misses
    obtain ⟨cutter, table, store⟩ := u.wArrival_cutPoint
    have event {e : Sticky} (he : e ≠ .starve) : u.wArrival.event e = u.cutPoint.event e := State.wArrival_event u he
    have cutter' : u.wArrival.cutter = ⟨.idle, none, some (r.missed .window u.cutterPosition u.w),
        s.cutter.retirements + 1⟩ := by
      rw [cutter, misses.cutter, sameCutter]
    have counted : s.countArrival x y = u.wArrival := State.countArrival_of_moves hm
    refine ⟨u.wArrival, ?_, ?_, ?_, ?_, ?_, s.takePair_starvesBy x y, ?_, ?_, ?_, ?_, ?_, ?_⟩
    · rw [exec_cutWindowExpiry, arrival_next operates, expires r rest records, next, reached, counted, if_pos]
      simpa [pending] using hm
    · rw [exec_countArrival operates, counted]
    · have released : u.wArrival.store = s.store.releaseRecord r := by
        rw [store, misses.store, State.takePair_store]
      exact u.wArrival_frame.trans (by rw [released])
    · rw [cutter', State.cutterPosition, sameParams]
      rfl
    · rw [table, misses.records]
    · rw [event (by decide), misses.cutMissed, events]
    · rw [event (by decide), misses.panelRetired, events]
    · intro h
      rw [event (by decide), misses.firstMark h, events]
    · intro h
      rw [event (by decide), misses.laterMark h, events]
    · intro e hm hr hd hs
      rw [event hs, misses.others e hm hr hd, events]
    · rw [State.cutRequest, cutter']
      exact Bool.and_false _
  · intro still
    refine exec_cutWindowExpiry_of_not operates ?_
    rcases records : s.table.records with - | ⟨r, rest⟩
    · show (_ && u.cutter.state != .idle && match u.table.records with
        | [] => false
        | r :: rest => !u.frontDue rest && u.windowReached r) = false
      rw [sameTable, records, Bool.and_false]
    · rw [expires r rest records]
      rcases still with h | h | h
      · simp only [moves, not_or] at h
        simp [h]
      · simp [h]
      · simp [records] at h
  · intro r rest records still
    refine exec_cutWindowExpiry_of_not operates ?_
    rw [expires r rest records]
    rcases still with due | open_
    · rw [State.frontDue_eq_true_iff.mpr due]
      simp
    · rw [State.windowReached_eq_false_iff.mpr (by rw [sameParams]; exact open_)]
      simp

/-- Settles O12: a DUE record behind the pending one forces its cut to be missed and becomes pending itself. -/
theorem nextPanelForcesCut : Obligations.NextPanelForcesCut := by
  intro s x y r rest operates moves pending records u
  have sameCutter : u.cutter = s.cutter := State.takePair_cutter s x y
  have front : u.table.records = r :: rest := by
    rw [State.takePair_table, records]
  have pending' : u.cutter.state ≠ .idle := by
    rw [sameCutter]
    exact pending
  have events : u.event = s.event := State.takePair_event x y
  have next : exec (.countArrival x y) s = .next u.wArrival := by
    rw [exec_countArrival operates, State.countArrival_of_moves moves]
  have event {e : Sticky} (he : e ≠ .starve) : u.wArrival.event e = u.cutPoint.event e := State.wArrival_event u he
  obtain ⟨cutter, table, store⟩ := u.wArrival_cutPoint
  refine ⟨?_, ?_⟩
  · rintro q more rfl due
    have forced := State.cutPoint_forced pending' front due
    have misses := State.missCut_misses front .forced
    obtain ⟨settled, settledRecords, first, later⟩ := State.makePending_settles misses.records .rearming
    have cutter' : u.wArrival.cutter = ⟨.rearming, some q.head, some (r.missed .forced u.cutterPosition u.w),
        s.cutter.retirements + 1⟩ := by
      rw [cutter, forced, settled, misses.cutter, sameCutter]
    have positions (b : Bar) : (u.assertRequest.missCut .forced).linePosition b = u.linePosition b := by
      simp [State.linePosition]
    have event' {e : Sticky} (hs : e ≠ .starve) (hd : e ≠ .panelDefect) :
        u.wArrival.event e = (u.assertRequest.missCut .forced).event e := by
      rw [event hs, forced, State.makePending_event _ hd]
    refine ⟨u.wArrival, _, next, ?_, ?_, ?_, q.settledAll_settles _, ?_, s.takePair_starvesBy x y, ?_, ?_,
      ⟨(u.assertRequest.missCut .forced).event .panelDefect, ?_, ?_, ?_, ?_⟩, ?_⟩
    · have released : u.wArrival.store = s.store.releaseRecord r := by
        rw [store, forced, State.makePending_store, misses.store, State.takePair_store]
      exact u.wArrival_frame.trans (by rw [released])
    · rw [cutter', State.cutterPosition, State.takePair_params]
      rfl
    · rw [table, forced, settledRecords]
      simp only [positions]
    · rw [State.cutRequest, cutter']
      exact Bool.and_false _
    · rw [event' (by decide) (by decide), misses.cutMissed, events]
    · rw [event' (by decide) (by decide), misses.panelRetired, events]
    · intro h
      rw [misses.firstMark h, events]
    · intro h
      rw [misses.laterMark h, events]
    · intro h
      rw [event (by decide), forced, first h]
    · intro h
      rw [event (by decide), forced, later h]
    · intro e hm hr hd hs
      rw [event' hs hd, misses.others e hm hr hd, events]
  · intro notDue open_
    have asserted : u.cutPoint = u.assertRequest :=
      State.cutPoint_open pending' front (State.frontDue_eq_false_iff.mpr notDue)
        (State.windowReached_eq_false_iff.mpr (by rw [State.takePair_params]; exact open_))
    have cutter' : u.wArrival.cutter = { s.cutter with state := .requesting } := by
      rw [cutter, asserted, State.assertRequest_state pending', sameCutter]
    refine ⟨u.wArrival, next, ?_, cutter', ?_, ?_, s.takePair_starvesBy x y, ?_⟩
    · have unreleased : u.wArrival.store = u.store := by
        rw [store, asserted, State.assertRequest_store]
      exact u.wArrival_frame.trans (by rw [unreleased])
    · rw [State.cutRequest, cutter', State.wArrival_inputs, State.takePair_operates, operates]
      rfl
    · rw [table, asserted, State.assertRequest_table, State.takePair_table]
    · intro e hs
      have kept : u.assertRequest.event = u.event := by
        funext e
        simp [State.event]
      rw [event hs, asserted, kept, events]

end Sys2Proof.Machine
end

section
/-! PROOF. POSREAD, PNLAST and PNINFO, and the codes they report (sections 1.5, 3.6 and 7.5). -/

namespace Sys2Proof.Machine

variable {s : State}

/-! ### Code bytes and report pieces -/

@[simp] theorem Reference.bytes_length (r : Reference) : r.bytes.length = 10 := by
  simp [Reference.bytes, bytesOfHead, bytesOfWord]

theorem firstDefectBytes_eq (d : Option FirstDefect) : firstDefectBytes d = match d with
    | some d => ([1, BitVec.ofNat 8 d.kind.number, barCode d.bar] : List Byte) ++ bytesOf 4 (BitVec.ofInt 32 d.y).toNat
    | none => [0, 0, 0xFF, 0, 0, 0, 0] := by
  cases d <;> rfl

@[simp] theorem firstDefectBytes_length (d : Option FirstDefect) : (firstDefectBytes d).length = 7 := by
  cases d <;> rfl

theorem Policy.code_eq (p : Policy) : p.code = if p = .stop then 1 else 0 := by
  cases p <;> rfl

theorem summaryBytes_length (m : Option Summary) : (summaryBytes m).length = 40 := by
  cases m <;> simp [summaryBytes, SummaryBar.bytes, bytesOfWord]

theorem summaryBytes_some (m : Summary) : summaryBytes (some m) = bytesOf 2 m.tag.toNat ++ bytesOf 4 m.head.toNat
    ++ bytesOf 4 m.length
    ++ [(match m.outcome with
        | .cut => 0
        | .window => 1
        | .forced => 2 : Byte)]
    ++ bytesOf 4 m.w.toNat
    ++ ([if m.aborted then 1 else 0, if m.policy = .stop then 1 else 0] : List Byte)
    ++ Bar.all.flatMap (fun b =>
        [patternCode (m.bars.get b).pattern, (m.bars.get b).status.code] ++ bytesOf 2 (m.bars.get b).defects.toNat)
    ++ bytesOf 2 m.defects.toNat ++ bytesOf 2 m.notices
    ++ (match m.first with
      | some d => ([1, BitVec.ofNat 8 d.kind.number, barCode d.bar] : List Byte)
          ++ bytesOf 4 (BitVec.ofInt 32 d.y).toNat
      | none => [0, 0, 0xFF, 0, 0, 0, 0]) := by
  rw [← firstDefectBytes_eq]
  cases h : m.outcome <;> simp [summaryBytes, SummaryBar.bytes, bytesOfWord, flag, Policy.code_eq, CutOutcome.code,
    Bar.all, PerBar.get, h]

/-- Settles O8: the layout of the two reports, field by field. -/
theorem positionAndCutReports : Obligations.PositionAndCutReports := by
  refine ⟨fun s tag takes => ⟨⟨bytesOfWord s.w ++ [pairCode s.inputs.webA s.inputs.webB]
      ++ s.bars.a.reference.bytes ++ s.bars.b.reference.bytes ++ s.bars.c.reference.bytes,
      request_of_report takes (owner := posread []) fun _ => rfl, ?_, ?_⟩, ?_⟩,
    fun s tag takes => ⟨⟨summaryBytes s.cutter.lastRetired, ?_, summaryBytes_length _, ?_, ?_⟩, ?_⟩⟩
  · simp [bytesOfWord]
  · simp only [Bar.all, List.flatMap_cons, List.flatMap_nil, List.append_assoc, List.append_nil]
    rfl
  · intro p filled
    exact request_of_refusal takes fun l => if_pos (by simpa using filled)
  · exact request_of_report takes (owner := pnlast []) fun _ => rfl
  · intro none
    rw [none]
    rfl
  · intro m some
    exact (congrArg summaryBytes some).trans (summaryBytes_some m)
  · intro p filled
    exact request_of_refusal takes fun l => if_pos (by simpa using filled)

/-! ### PNINFO -/

theorem State.findTag_of_pre {r : PanelRecord} {pre post : List PanelRecord}
    (holds : s.Holds (·.tag) pre r post) : s.findTag r.tag.toNat = some r := by
  obtain ⟨records, before⟩ := holds
  rw [State.findTag, records, List.find?_append, List.find?_eq_none.mpr]
  · simp
  · intro q hq
    simpa [BitVec.toNat_inj] using before q hq

theorem State.findTag_absent {n : Nat} (h : ∀ q ∈ s.table.records, q.tag.toNat ≠ n) : s.findTag n = none := by
  rw [State.findTag, List.find?_eq_none]
  simpa using h

/-- The place of a record in the queue is the number of records before it. -/
theorem State.place_of_pre {r : PanelRecord} {pre post : List PanelRecord} (holds : s.Holds (·.tag) pre r post) :
    s.table.records.findIdx (fun q => q.tag = r.tag) = pre.length := by
  obtain ⟨records, before⟩ := holds
  have absent : pre.findIdx (fun q => decide (q.tag = r.tag)) = pre.length :=
    List.findIdx_eq_length.mpr fun q hq => by simpa using before q hq
  rw [records, List.findIdx_append, absent, if_neg (lt_irrefl _), List.findIdx_cons]
  simp

theorem State.panelBytes_eq {r : PanelRecord} {pre post : List PanelRecord} (holds : s.Holds (·.tag) pre r post) :
    s.panelBytes r = bytesOf 2 r.tag.toNat ++ [BitVec.ofNat 8 pre.length] ++ bytesOf 4 r.head.toNat ++ bytesOf 4 r.length
      ++ bytesOf 2 r.tailMargin
      ++ ([if r.policy = .stop then 1 else 0, (s.phase r).code, if r.aborted then 1 else 0,
          if r.cutPending then 1 else 0] : List Byte)
      ++ Bar.all.flatMap (fun b =>
          let p := r.bars.get b
          ([patternCode p.pattern] : List Byte) ++ bytesOf 2 (BitVec.ofInt 16 p.origin).toNat
            ++ [widthCode p.widthSet, p.status.code] ++ bytesOf 2 p.defects.toNat)
      ++ bytesOf 2 r.defects.toNat ++ bytesOf 2 r.notices
      ++ (match r.first with
        | some d => ([1, BitVec.ofNat 8 d.kind.number, barCode d.bar] : List Byte)
            ++ bytesOf 4 (BitVec.ofInt 32 d.y).toNat
        | none => [0, 0, 0xFF, 0, 0, 0, 0]) := by
  rw [← firstDefectBytes_eq, State.panelBytes, State.place_of_pre holds]
  simp [PanelBar.bytes, bytesOfWord, signed2, flag, byte, Policy.code_eq, Bar.all, PerBar.get]

theorem DefectKind.getLsbD_bit (k : DefectKind) (n : Nat) : k.bit.getLsbD n = true ↔ n = k.number := by
  have small : k.number < 14 := by cases k <;> decide
  rw [DefectKind.bit, BitVec.getLsbD_twoPow]
  simp only [Bool.and_eq_true, decide_eq_true_eq]
  omega

/-- The number of a tag in the two bytes of a payload. -/
theorem field_bytesOf_two {n : Nat} (h : n ≤ 65535) : field (bytesOf 2 n) 0 2 = n :=
  field_bytesOf' 2 n (by omega)

/-- PNINFO of the tag of a live record (R48). -/
theorem pninfo_of_found {n : Nat} {r : PanelRecord} (h : n ≤ 65535) (nonzero : n ≠ 0) (found : s.findTag n = some r) :
    pninfo (bytesOf 2 n) s = accept s (s.panelBytes r) := by
  rw [pninfo, if_neg (by simp), field_bytesOf_two h, if_neg nonzero, found]

/-- PNINFO of a tag that no live record has (R48). -/
theorem pninfo_of_absent {n : Nat} (h : n ≤ 65535) (nonzero : n ≠ 0) (absent : s.findTag n = none) :
    pninfo (bytesOf 2 n) s = refuse s .noSuch := by
  rw [pninfo, if_neg (by simp), field_bytesOf_two h, if_neg nonzero, absent]

/-- Settles O19: the codes of the manual, the report of one record and that of the table. -/
theorem panelReports : Obligations.PanelReports := by
  refine ⟨rfl, rfl, rfl, DefectKind.getLsbD_bit, rfl, fun _ => rfl, rfl, fun _ => rfl, rfl, rfl, fun _ => rfl,
    fun s tag takes => ⟨?_, ?_, ?_, ?_⟩⟩
  · intro pre r post holds named
    have small : r.tag.toNat ≤ 65535 := Nat.le_of_lt_succ r.tag.isLt
    have nonzero : r.tag.toNat ≠ 0 := fun h => named (BitVec.eq_of_toNat_eq h)
    refine (request_of_report takes (owner := pninfo (bytesOf 2 r.tag.toNat)) (p := s.panelBytes r) fun l => ?_).trans
      (congrArg (fun bytes => Host.Outcome.next (s.answered 0x22 tag .ok bytes)) (State.panelBytes_eq holds))
    exact pninfo_of_found small nonzero (State.findTag_of_pre (s := { s with link := l }) holds)
  · exact request_of_report takes (owner := tableReport) fun _ => rfl
  · intro n positive small absent
    exact request_of_refusal takes (owner := pninfo (bytesOf 2 n)) fun l =>
      pninfo_of_absent small (by omega) (State.findTag_absent (s := { s with link := l }) absent)
  · intro p length
    exact request_of_refusal takes (owner := pninfo p) fun l => if_pos length

end Sys2Proof.Machine
end

section
/-! PROOF. PNADMIT: its checks in order, and the record an accepted one appends (section 3.4). -/

namespace Sys2Proof.Machine

variable {s : State} {p : List Byte}

/-! ### The checks -/

theorem BarRequest.inRange_iff (r : BarRequest) : r.inRange = true ↔ r.pattern ≤ 32 ∧ -4000 ≤ r.origin ∧ r.origin ≤ 4000
    ∧ (r.widthSet ≤ 63 ∨ r.widthSet = 255) := by
  simp only [BarRequest.inRange, Bool.and_eq_true, Bool.or_eq_true, decide_eq_true_eq, and_assoc]

theorem Admission.inRange_iff (a : Admission) : a.inRange = true ↔ 1 ≤ a.tag ∧ a.tag ≤ 65535 ∧ a.mode ≤ 1
    ∧ (a.mode = 1 → a.value ≤ 16777215) ∧ 1000 ≤ a.length ∧ a.length ≤ 1000000 ∧ a.tailMargin ≤ 2000 ∧ a.policy ≤ 1
    ∧ ∀ b, (a.bars.get b).pattern ≤ 32 ∧ -4000 ≤ (a.bars.get b).origin ∧ (a.bars.get b).origin ≤ 4000
      ∧ ((a.bars.get b).widthSet ≤ 63 ∨ (a.bars.get b).widthSet = 255) := by
  have bars : (∀ b, (a.bars.get b).inRange = true)
      ↔ a.bars.a.inRange = true ∧ a.bars.b.inRange = true ∧ a.bars.c.inRange = true :=
    ⟨fun h => ⟨h .A, h .B, h .C⟩, fun ⟨ha, hb, hc⟩ b => by cases b <;> assumption⟩
  simp only [← BarRequest.inRange_iff, bars, Admission.inRange, Bool.and_eq_true, Bool.or_eq_true, decide_eq_true_eq,
    and_assoc]
  constructor
  · rintro ⟨t1, t2, m, v, rest⟩
    exact ⟨t1, t2, m, by omega, rest⟩
  · rintro ⟨t1, t2, m, v, rest⟩
    exact ⟨t1, t2, m, by omega, rest⟩

theorem State.patternUsable_iff (s : State) (r : BarRequest) :
    s.patternUsable r = true ↔ ∀ q, patternOf? r.pattern = some q → s.store.patterns[q].state = .closed := by
  unfold State.patternUsable
  cases patternOf? r.pattern <;> simp

/-- Every bar of an admission names no pattern or a CLOSED one (R43, check 4). -/
def State.usable (s : State) (a : Admission) : Bool :=
  s.patternUsable a.bars.a && s.patternUsable a.bars.b && s.patternUsable a.bars.c

theorem State.usable_iff (s : State) (a : Admission) : s.usable a = true
    ↔ ∀ b q, patternOf? (a.bars.get b).pattern = some q → s.store.patterns[q].state = .closed := by
  simp only [← State.patternUsable_iff, State.usable, Bool.and_eq_true]
  exact ⟨fun ⟨⟨ha, hb⟩, hc⟩ b => by cases b <;> assumption, fun h => ⟨⟨h .A, h .B⟩, h .C⟩⟩

theorem State.overlapsNewest_iff (s : State) (head : Word) : s.overlapsNewest head = true
    ↔ ∃ q, s.table.records.getLast? = some q ∧ webDist head (q.head + BitVec.ofNat 32 q.length) < 0 := by
  unfold State.overlapsNewest
  rcases newest : s.table.records.getLast? with - | q
  · simp
  · simp only [decide_eq_true_eq, Option.some.injEq, exists_eq_left']
    rfl

theorem State.findTag_isSome_iff {n : Nat} : (s.findTag n).isSome = true ↔ ∃ q ∈ s.table.records, q.tag.toNat = n := by
  simp [State.findTag]

/-- The status of the first check of an admission that fails, in the order of R43. -/
def State.admissionRefusal (s : State) (a : Admission) : Option Status :=
  if 16 ≤ s.table.records.length then some .full
  else if (s.findTag a.tag).isSome then some .dupTag
  else if a.inRange = false then some .range
  else if s.usable a = false then some .state
  else if webDist (s.admittedHead a) s.w < 0 then some .headPassed
  else if 16777216 ≤ webDist (s.admittedHead a) s.w then some .tooFar
  else if s.overlapsNewest (s.admittedHead a) then some .order
  else none

theorem pnadmit_of_refused {st : Status} (length : p.length = 26)
    (refused : s.admissionRefusal (readAdmission p) = some st) : pnadmit p s = refuse s st := by
  unfold State.admissionRefusal State.usable at refused
  unfold pnadmit
  simp only [length, Config.maxRecords, Bool.not_eq_true', ne_eq, not_true_eq_false, if_false]
  split_ifs at refused ⊢ <;> simp_all

theorem pnadmit_of_admitted (length : p.length = 26) (admitted : s.admissionRefusal (readAdmission p) = none) :
    pnadmit p s = accept (s.addPanel ((readAdmission p).record (s.admittedHead (readAdmission p))))
      (bytesOf 4 (s.admittedHead (readAdmission p)).toNat ++ [byte (s.table.records.length + 1)]) := by
  unfold State.admissionRefusal State.usable at admitted
  unfold pnadmit
  simp only [length, Config.maxRecords, Bool.not_eq_true', ne_eq, not_true_eq_false, if_false]
  split_ifs at admitted ⊢
  simp [State.addPanel_records, bytesOfWord]

/-- Settles O14: the first check that fails gives the status. -/
theorem admissionRefusals : Obligations.AdmissionRefusals := by
  intro s tag p takes refused a bar inRange closed head
  have refusal {st : Status} (length : p.length = 26) (h : s.admissionRefusal a = some st) : refused st :=
    request_of_refusal takes fun l => pnadmit_of_refused (s := { s with link := l }) length h
  have inRange_iff : a.inRange = true ↔ inRange := by
    have tag : a.tag ≤ 65535 := by
      have := numberOf_lt ((p.drop 0).take 2)
      have short : ((p.drop 0).take 2).length ≤ 2 := List.length_take_le 2 _
      have := Nat.pow_le_pow_right (n := 256) (by omega) short
      show numberOf _ ≤ 65535
      omega
    rw [Admission.inRange_iff]
    exact ⟨fun ⟨t, _, rest⟩ => ⟨t, rest⟩, fun ⟨t, rest⟩ => ⟨t, tag, rest⟩⟩
  refine ⟨?_, ?_, ?_⟩
  · intro length
    exact request_of_refusal takes fun l => if_pos length
  · intro length full
    exact refusal length (if_pos full)
  · intro length room
    have notFull : ¬ 16 ≤ s.table.records.length := by omega
    refine ⟨fun taken => refusal length ?_, fun free => ⟨?_, ?_, ?_⟩⟩
    · rw [State.admissionRefusal, if_neg notFull, if_pos (State.findTag_isSome_iff.mpr taken)]
    all_goals
      have fresh : ¬ (s.findTag a.tag).isSome = true := by
        rw [State.findTag_isSome_iff]
        exact fun ⟨q, hq, same⟩ => free q hq same
    · intro outside
      refine refusal length ?_
      rw [State.admissionRefusal, if_neg notFull, if_neg fresh,
        if_pos (Bool.not_eq_true _ ▸ mt inRange_iff.mp outside)]
    · intro inside unclosed
      refine refusal length ?_
      rw [State.admissionRefusal, if_neg notFull, if_neg fresh, if_neg (by simpa using inRange_iff.mpr inside),
        if_pos (Bool.not_eq_true _ ▸ mt (State.usable_iff s a).mp unclosed)]
    · intro inside usable
      have checked : s.admissionRefusal a = if webDist head s.w < 0 then some .headPassed
          else if 16777216 ≤ webDist head s.w then some .tooFar
          else if s.overlapsNewest head then some .order else none := by
        rw [State.admissionRefusal, if_neg notFull, if_neg fresh, if_neg (by simpa using inRange_iff.mpr inside),
          if_neg (by simpa using (State.usable_iff s a).mpr usable)]
      refine ⟨fun passed => refusal length ?_, fun far => refusal length ?_, fun ahead near overlaps => refusal length ?_⟩
      · rw [checked, if_pos passed]
      · rw [checked, if_neg (by omega), if_pos far]
      · rw [checked, if_neg (by omega), if_neg (by omega), if_pos ((State.overlapsNewest_iff s head).mpr overlaps)]

/-! ### An accepted admission -/

/-- The four bytes of one bar in an admission (R42). -/
def barBytes (pattern : Option PatternId) (origin : Int) (width : Option SetNo) : List Byte :=
  [patternCode pattern] ++ bytesOf 2 (BitVec.ofInt 16 origin).toNat ++ [widthCode width]

@[simp] theorem barBytes_length (pattern : Option PatternId) (origin : Int) (width : Option SetNo) :
    (barBytes pattern origin width).length = 4 := rfl

/-- A signed number of 16 bits reads back from its two bytes. -/
theorem toInt_ofInt_16 {i : Int} (low : -32768 ≤ i) (high : i ≤ 32767) :
    (BitVec.ofNat 16 (BitVec.ofInt 16 i).toNat).toInt = i := by
  rw [BitVec.ofNat_toNat, BitVec.setWidth_eq, BitVec.toInt_ofInt]
  exact Int.bmod_eq_of_le (by omega) (by omega)

/-- One byte of a payload after those before it. -/
theorem fieldByte_middle {pre : List Byte} {at_ : Nat} (before : pre.length = at_) (b : Byte) (post : List Byte) :
    fieldByte (pre ++ (b :: post)) at_ = b.toNat := by
  have := field_middle (l := [b]) (post := post) before rfl
  simpa [fieldByte, numberOf] using this

/-- A number of `k` bytes in a payload after those before it. -/
theorem field_bytesOf_middle {pre : List Byte} {at_ k n : Nat} (before : pre.length = at_) (small : n < 256 ^ k)
    (post : List Byte) : field (pre ++ (bytesOf k n ++ post)) at_ k = n := by
  rw [field_middle before (bytesOf_length k n), numberOf_bytesOf, Nat.mod_eq_of_lt small]

/-- A bar's bytes read back as what is asked for it. -/
theorem readBarRequest_barBytes {pre post : List Byte} {at_ : Nat} (before : pre.length = at_)
    (pattern : Option PatternId) {origin : Int} (low : -4000 ≤ origin) (high : origin ≤ 4000) (width : Option SetNo) :
    readBarRequest (pre ++ (barBytes pattern origin width ++ post)) at_
      = ⟨(patternCode pattern).toNat, origin, (widthCode width).toNat⟩ := by
  have split_origin : pre ++ (barBytes pattern origin width ++ post) = (pre ++ [patternCode pattern])
      ++ (bytesOf 2 (BitVec.ofInt 16 origin).toNat ++ (widthCode width :: post)) := by
    simp [barBytes]
  have split_width : pre ++ (barBytes pattern origin width ++ post)
      = (pre ++ ([patternCode pattern] ++ bytesOf 2 (BitVec.ofInt 16 origin).toNat)) ++ ([widthCode width] ++ post) := by
    simp [barBytes]
  have patternField : fieldByte (pre ++ (barBytes pattern origin width ++ post)) at_ = (patternCode pattern).toNat :=
    fieldByte_middle before (patternCode pattern) _
  have originField : fieldSigned2 (pre ++ (barBytes pattern origin width ++ post)) (at_ + 1) = origin := by
    rw [fieldSigned2, split_origin, field_bytesOf_middle (by simp [before]) (BitVec.isLt _),
      toInt_ofInt_16 (by omega) (by omega)]
  have widthField : fieldByte (pre ++ (barBytes pattern origin width ++ post)) (at_ + 3) = (widthCode width).toNat := by
    rw [split_width]
    exact fieldByte_middle (by simp [before]) _ _
  rw [readBarRequest, patternField, originField, widthField]

/-- An admission reads back from its 26 bytes (R42). -/
theorem readAdmission_bytes {number value length margin : Nat} (mode policy : Byte)
    (patterns : PerBar (Option PatternId)) (origins : PerBar Int) (widths : PerBar (Option SetNo))
    (hn : number ≤ 65535) (hv : value ≤ 4294967295) (hl : length ≤ 4294967295) (hm : margin ≤ 65535)
    (ho : ∀ b, -4000 ≤ origins.get b ∧ origins.get b ≤ 4000) :
    readAdmission (bytesOf 2 number ++ [mode] ++ bytesOf 4 value ++ bytesOf 4 length ++ bytesOf 2 margin ++ [policy]
        ++ Bar.all.flatMap (fun b => barBytes (patterns.get b) (origins.get b) (widths.get b)))
      = ⟨number, mode.toNat, value, length, margin, policy.toNat,
        let bar (b : Bar) : BarRequest :=
          ⟨(patternCode (patterns.get b)).toNat, origins.get b, (widthCode (widths.get b)).toNat⟩
        ⟨bar .A, bar .B, bar .C⟩⟩ := by
  have bar {pre post : List Byte} {at_ : Nat} (before : pre.length = at_) (b : Bar) :=
    readBarRequest_barBytes (post := post) before (patterns.get b) (ho b).1 (ho b).2 (widths.get b)
  unfold readAdmission
  simp only [Bar.all, List.flatMap_cons, List.flatMap_nil]
  congr 1
  · simp only [List.append_assoc]
    exact field_bytesOf 2 number _ (by omega)
  · simp only [List.append_assoc]
    exact fieldByte_middle (by simp) mode _
  · simp only [List.append_assoc (bytesOf 2 number ++ [mode])]
    exact field_bytesOf_middle (by simp) (by omega) _
  · simp only [List.append_assoc (bytesOf 2 number ++ [mode] ++ bytesOf 4 value)]
    exact field_bytesOf_middle (by simp) (by omega) _
  · simp only [List.append_assoc (bytesOf 2 number ++ [mode] ++ bytesOf 4 value ++ bytesOf 4 length)]
    exact field_bytesOf_middle (by simp) (by omega) _
  · simp only [List.append_assoc (bytesOf 2 number ++ [mode] ++ bytesOf 4 value ++ bytesOf 4 length ++ bytesOf 2 margin)]
    exact fieldByte_middle (by simp) policy _
  · generalize before : bytesOf 2 number ++ [mode] ++ bytesOf 4 value ++ bytesOf 4 length ++ bytesOf 2 margin ++ [policy]
      = pre
    have size : pre.length = 14 := by
      rw [← before]
      simp
    congr 1
    · exact bar size .A
    · rw [← List.append_assoc]
      exact bar (by simp [size]) .B
    · rw [← List.append_assoc, ← List.append_assoc]
      exact bar (by simp [size]) .C

theorem patternCode_le (q : Option PatternId) : (patternCode q).toNat ≤ 32 := by
  cases q with
  | none => decide
  | some q =>
    have := q.isLt
    rw [patternCode, byte_toNat_of_lt (by unfold PatternId.number; omega)]
    exact q.isLt

theorem widthCode_range (n : Option SetNo) : (widthCode n).toNat ≤ 63 ∨ (widthCode n).toNat = 255 := by
  cases n with
  | none => exact .inr rfl
  | some n =>
    have := n.isLt
    rw [widthCode, byte_toNat_of_lt (by omega)]
    omega

/-- What a new record holds for a bar whose pattern and width set the codes name (R38). -/
theorem panelBar_of_codes (pattern : Option PatternId) (origin : Int) (width : Option SetNo) :
    BarRequest.panelBar ⟨(patternCode pattern).toNat, origin, (widthCode width).toNat⟩ = {
      pattern := pattern
      origin := origin
      widthSet := width
      status := if pattern = none then .absent else .notReached
      defects := 0 } := by
  rw [BarRequest.panelBar, patternOf_patternCode, setOf_widthCode]
  cases pattern <;> rfl

/-- Settles O13: the request passes every check, and its record joins the table. -/
theorem admissionAppendsRecord : Obligations.AdmissionAppendsRecord := by
  intro s tag number value length margin after stop patterns origins widths takes room fresh n1 n2 v l1 l2 m o closed head
    ahead near behind r
  let mode : Byte := if after then 1 else 0
  let policy : Byte := if stop then 1 else 0
  have value_le : value ≤ 4294967295 := by
    refine v.trans ?_
    split <;> omega
  obtain ⟨p, hp⟩ : ∃ p, p = bytesOf 2 number ++ [mode] ++ bytesOf 4 value ++ bytesOf 4 length ++ bytesOf 2 margin
      ++ [policy] ++ Bar.all.flatMap (fun b => barBytes (patterns.get b) (origins.get b) (widths.get b)) := ⟨_, rfl⟩
  have size : p.length = 26 := by
    rw [hp]
    simp [Bar.all]
  let bar (b : Bar) : BarRequest := ⟨(patternCode (patterns.get b)).toNat, origins.get b, (widthCode (widths.get b)).toNat⟩
  have read : readAdmission p = ⟨number, mode.toNat, value, length, margin, policy.toNat, ⟨bar .A, bar .B, bar .C⟩⟩ := by
    rw [hp]
    exact readAdmission_bytes mode policy patterns origins widths n2 value_le (by omega) (by omega) o
  have bars (b : Bar) : (⟨bar .A, bar .B, bar .C⟩ : PerBar BarRequest).get b = bar b := by
    cases b <;> rfl
  have head_eq : s.admittedHead (readAdmission p) = head := by
    rw [read]
    show _ = match after, s.table.records.getLast? with
      | false, _ => BitVec.ofNat 32 value
      | true, none => s.w + BitVec.ofNat 32 value
      | true, some q => q.head + BitVec.ofNat 32 q.length + BitVec.ofNat 32 value
    cases after with
    | false => rfl
    | true =>
      refine (if_neg (show (1 : Byte).toNat ≠ 0 by decide)).trans ?_
      cases s.table.records.getLast? <;> rfl
  have record : (readAdmission p).record head = r := by
    rw [read]
    have tags : (if policy.toNat = 1 then Policy.stop else .mark) = if stop then .stop else .mark := by
      cases stop <;> rfl
    simp only [Admission.record, tags, PerBar.map, bar, panelBar_of_codes]
    rfl
  have inside : (readAdmission p).inRange = true := by
    rw [read, Admission.inRange_iff]
    refine ⟨n1, n2, ?_, ?_, l1, l2, m, ?_, fun b => ?_⟩
    · show mode.toNat ≤ 1
      cases after <;> decide
    · intro afterMode
      cases after with
      | false => exact absurd afterMode (show (0 : Byte).toNat ≠ 1 by decide)
      | true => exact v
    · show policy.toNat ≤ 1
      cases stop <;> decide
    · rw [bars]
      exact ⟨patternCode_le _, (o b).1, (o b).2, widthCode_range _⟩
  have usable : s.usable (readAdmission p) = true := by
    rw [read, State.usable_iff]
    intro b q hq
    rw [bars, patternOf_patternCode] at hq
    exact closed b q hq
  have admitted : s.admissionRefusal (readAdmission p) = none := by
    have free : ¬ (s.findTag (readAdmission p).tag).isSome = true := by
      rw [read, State.findTag_isSome_iff]
      exact fun ⟨q, hq, same⟩ => fresh q hq same
    have clear : ¬ s.overlapsNewest head = true := by
      rw [State.overlapsNewest_iff]
      rintro ⟨q, hq, before⟩
      exact absurd (behind q hq) (by omega)
    rw [State.admissionRefusal, if_neg (by omega), if_neg free, if_neg (by simp [inside]), if_neg (by simp [usable]),
      head_eq, if_neg (by omega), if_neg (by omega), if_neg clear]
  refine ⟨(s.addPanel r).starvationCondition, ?_, ?_⟩
  · rw [State.starvationCondition_iff, State.addPanel_params, State.addPanel_w, State.addPanel_records]
  · show exec (.pnadmit tag (bytesOf 2 number ++ [mode] ++ bytesOf 4 value ++ bytesOf 4 length ++ bytesOf 2 margin
      ++ [policy] ++ Bar.all.flatMap (fun b => barBytes (patterns.get b) (origins.get b) (widths.get b)))) s = _
    rw [← hp]
    refine request_of_answer takes (owner := pnadmit p) (u := s.addPanel r) (st := .ok)
      (p := bytesOf 4 head.toNat ++ [BitVec.ofNat 8 (s.table.records.length + 1)]) fun l => ?_
    rw [pnadmit_of_admitted (s := { s with link := l }) size admitted,
      show State.admittedHead { s with link := l } (readAdmission p) = head from head_eq, record]
    rfl

end Sys2Proof.Machine
end

section
/-! PROOF. PNABORT, and the messages and notices that the panel table takes (sections 3.5 and 3.7). -/

namespace Sys2Proof.Machine

variable {s : State} {r : PanelRecord} {pre post : List PanelRecord}

/-! ### PNABORT -/

theorem State.untouched_iff (s : State) (r : PanelRecord) : s.untouched r = true ↔ s.Untouched r := by
  simp only [State.untouched, State.Untouched, List.all_eq_true]
  constructor
  · intro h b c current
    have := h b (by cases b <;> decide)
    rw [current] at this
    exact of_decide_eq_true this
  · intro h b _
    split
    · exact decide_eq_true (h b _ (by assumption))
    · rfl

theorem State.removeRecord_of_pre (holds : s.Holds (·.tag) pre r post) :
    s.removeRecord r = ((s.setRecords (pre ++ post)).setStore (s.store.releaseRecord r)).restarve := by
  obtain ⟨records, before⟩ := holds
  have taken : s.table.records.eraseP (fun q => q.tag = r.tag) = pre ++ post := by
    rw [records, List.eraseP_append_right, List.eraseP_cons_of_pos (by simp)]
    intro q hq
    simpa using before q hq
  rw [State.removeRecord, taken]

theorem State.markAborted_of_pre (records : s.table.records = pre ++ r :: post) (before : ∀ q ∈ pre, q.head ≠ r.head) :
    s.markAborted r = (s.setRecords (pre ++ { r with
        aborted := true
        defects := r.defects ||| DefectKind.aborted.bit
        notices := min (r.notices + 1) 65535
        first := r.first.or (some ⟨.aborted, none, webDist s.w r.head⟩) } :: post)).raiseIf
      r.first.isNone .panelDefect (some (.tag r.tag)) := by
  have marked : (s.updateRecord r.head (fun q => { q with aborted := true })).table.records
      = pre ++ { r with aborted := true } :: post := by
    rw [State.updateRecord, records, updateHead_of_pre _ _ before rfl]
    rfl
  rw [State.markAborted]
  refine (State.fold_of_pre (r := { r with aborted := true }) marked before none DefectKind.aborted.bit _).trans ?_
  have lowest : lowestKind DefectKind.aborted.bit = some .aborted := by decide
  rw [lowest, Option.isSome_some, Bool.and_true]
  simp only [PanelRecord.fold, lowest]
  rfl

/-- PNABORT of the tag of a live record (R45). -/
theorem pnabort_of_found {n : Nat} (h : n ≤ 65535) (nonzero : n ≠ 0) (found : s.findTag n = some r) :
    pnabort (bytesOf 2 n) s =
      if s.phase r = .waiting && s.untouched r && !r.cutPending then accept (s.removeRecord r) [0, (s.phase r).code]
      else if !r.aborted then accept (s.markAborted r) [1, (s.phase r).code]
      else accept s [2, (s.phase r).code] := by
  rw [pnabort, if_neg (by simp), field_bytesOf_two h, if_neg nonzero, found]

/-- PNABORT of a tag that no live record has (R45). -/
theorem pnabort_of_absent {n : Nat} (h : n ≤ 65535) (absent : n = 0 ∨ s.findTag n = none) :
    pnabort (bytesOf 2 n) s = refuse s .noSuch := by
  rw [pnabort, if_neg (by simp), field_bytesOf_two h]
  rcases absent with zero | absent
  · rw [if_pos zero]
  · rw [absent, ite_self]

/-- Settles O15: the record of the tag is found, and its phase, its marks and the cut decide. -/
theorem abortOutcomes : Obligations.AbortOutcomes := by
  intro s tag takes
  refine ⟨?_, ?_, ?_⟩
  · intro pre r post holds heads named asked removable
    have small : r.tag.toNat ≤ 65535 := Nat.le_of_lt_succ r.tag.isLt
    have nonzero : r.tag.toNat ≠ 0 := fun h => named (BitVec.eq_of_toNat_eq h)
    have removable_iff (u : State) : (decide (u.phase r = .waiting) && u.untouched r && !r.cutPending) = true
        ↔ u.phase r = .waiting ∧ u.Untouched r ∧ r.cutPending = false := by
      simp [State.untouched_iff, and_assoc]
    have found (u : State) (same : u.table = s.table) : pnabort (bytesOf 2 r.tag.toNat) u =
        if u.phase r = .waiting && u.untouched r && !r.cutPending then accept (u.removeRecord r) [0, (u.phase r).code]
        else if !r.aborted then accept (u.markAborted r) [1, (u.phase r).code]
        else accept u [2, (u.phase r).code] :=
      pnabort_of_found small nonzero (State.findTag_of_pre (by rw [State.Holds, same]; exact holds))
    refine ⟨?_, ?_, ?_⟩
    · intro taken
      refine ⟨({ s with table := { s.table with records := pre ++ post } } : State).starvationCondition,
        State.starvationCondition_iff, ?_⟩
      refine request_of_answer takes (owner := pnabort (bytesOf 2 r.tag.toNat)) (st := .ok) (p := [0, 0])
        (u := ((s.setRecords (pre ++ post)).setStore (s.store.releaseRecord r)).restarve) fun l => ?_
      rw [found { s with link := l } rfl, if_pos ((removable_iff { s with link := l }).mpr taken),
        State.removeRecord_of_pre (s := { s with link := l }) holds,
        show State.phase { s with link := l } r = .waiting from taken.1]
      rfl
    · intro kept unmarked
      refine (request_of_answer takes (owner := pnabort (bytesOf 2 r.tag.toNat)) (st := .ok) (p := [1, (s.phase r).code])
        (u := s.markAborted r) fun l => ?_).trans ?_
      · rw [found { s with link := l } rfl, if_neg (mt (removable_iff { s with link := l }).mp kept), unmarked,
          State.markAborted_of_pre (s := { s with link := l }) holds.1 heads, State.markAborted_of_pre holds.1 heads]
        cases r.first <;> rfl
      · rw [State.markAborted_of_pre holds.1 heads]
        cases r.first <;> rfl
    · intro kept marked
      refine request_of_report takes (owner := pnabort (bytesOf 2 r.tag.toNat)) fun l => ?_
      rw [found { s with link := l } rfl, if_neg (mt (removable_iff { s with link := l }).mp kept), marked]
      rfl
  · intro n small absent
    exact request_of_refusal takes (owner := pnabort (bytesOf 2 n)) fun l =>
      pnabort_of_absent small (absent.imp_right (State.findTag_absent (s := { s with link := l })))
  · intro p length
    exact request_of_refusal takes (owner := pnabort p) fun l => if_pos length

/-! ### Bar status messages -/

/-- Settles O16: the record of the message's head takes the status. -/
theorem statusMessageTaken : Obligations.StatusMessageTaken := by
  intro s m operates
  refine ⟨?_, ?_⟩
  · rintro pre r post ⟨records, before⟩ named
    have before' : ∀ q ∈ pre, q.head ≠ m.head := fun q hq => named ▸ before q hq
    rw [exec_barStatusMessage, arrival_next operates, State.takeStatus, State.updateRecord]
    rw [State.removeMessage_table, records, updateHead_of_pre _ r before' named]
    by_cases absent : (r.bars.get m.bar).status = .absent
    · have kept : r.bars.set m.bar { r.bars.get m.bar with status := .absent } = r.bars := by
        rw [← absent]
        exact PerBar.set_get _ _
      simp only [if_pos absent, kept]
      rfl
    · simp only [if_neg absent]
      cases news : m.news <;> rfl
  · intro absent
    rw [exec_barStatusMessage, arrival_next operates, State.takeStatus, State.updateRecord, State.removeMessage_table,
      updateHead_of_absent _ absent]
    rfl

/-! ### Defect notices -/

theorem lowestKind_of_lowest {kinds : DefectSet} {k : DefectKind} (h : LowestKind kinds k) : lowestKind kinds = some k := by
  obtain ⟨holds, least⟩ := h
  have ascending : DefectKind.all.Pairwise (fun a b => a.number < b.number) := by decide
  have mem : k ∈ DefectKind.all := by cases k <;> decide
  obtain ⟨before, after, split⟩ := List.append_of_mem mem
  rw [lowestKind, split, List.find?_append, List.find?_eq_none.mpr]
  · simp [holds]
  · intro j hj present
    rw [split, List.pairwise_append] at ascending
    have lower := ascending.2.2 j hj k List.mem_cons_self
    have := least j present
    omega

theorem State.event_latch (s : State) (b : Bar) (h : HaltReason) : (s.latch b h).event = s.event := rfl

theorem State.latch_bar (s : State) (b : Bar) (h : HaltReason) : (s.latch b h).bars.get b = { s.bars.get b with
    control := { (s.bars.get b).control with latched := (s.bars.get b).control.latched.add h } } :=
  PerBar.get_set_self _ _ _

/-- Settles O17: the notice is folded, and STOP answers a BREAK or THREAD_OUT. -/
theorem defectNoticeFolded : Obligations.DefectNoticeFolded := by
  intro s n operates
  have next : exec (.defectNotice n) s = .next ((s.removeMessage (.notice n)).takeNotice n) := by
    rw [exec_defectNotice, arrival_next operates]
  refine ⟨?_, ?_⟩
  · rintro pre r post k ⟨records, before⟩ named lowest stops control
    obtain ⟨u, hu⟩ : ∃ u, u = s.removeMessage (.notice n) := ⟨_, rfl⟩
    have records' : u.table.records = pre ++ r :: post := by
      rw [hu, State.removeMessage_table, records]
    have stops_iff : (decide (r.policy = .stop) && answered n.kinds) = true ↔ stops := by
      simp [stops, answered]
    obtain ⟨v, hv⟩ : ∃ v, v = (u.setRecords (pre ++ r.fold (some n.bar) n.kinds n.y :: post)).raiseIf
        r.first.isNone .panelDefect (some (.tag r.tag)) := ⟨_, rfl⟩
    have folded : u.fold n.head (some n.bar) n.kinds n.y = v := by
      rw [← named, State.fold_of_pre records' before, lowestKind_of_lowest lowest, hv]
      simp
    have taken : u.takeNotice n = if stops then (v.raise .defectStop (some (.bar n.bar))).latch n.bar .defect else v := by
      rw [State.takeNotice, ← named, State.findRecord_of_pre records' before]
      dsimp only
      rw [named, folded]
      by_cases h : stops
      · rw [if_pos h, if_pos (stops_iff.mpr h)]
      · rw [if_neg h, if_neg (mt stops_iff.mp h)]
    have record : r.fold (some n.bar) n.kinds n.y = { r with
        defects := r.defects ||| n.kinds
        bars := r.bars.set n.bar { r.bars.get n.bar with defects := (r.bars.get n.bar).defects ||| n.kinds }
        notices := min (r.notices + 1) 65535
        first := r.first.or (some ⟨k, some n.bar, n.y⟩) } := by
      rw [PanelRecord.fold, lowestKind_of_lowest lowest]
      rfl
    have event_v (e : Sticky) : v.event e = if e = .panelDefect ∧ r.first = none
        then raised (s.event .panelDefect) (.tag r.tag) else s.event e := by
      have kept : (u.setRecords (pre ++ r.fold (some n.bar) n.kinds n.y :: post)).event = s.event := by
        rw [hu]
        rfl
      rw [hv, State.event_raiseIf, kept]
      rcases r.first with - | d
      · by_cases same : e = .panelDefect
        · subst same
          rfl
        · simp [same]
      · simp
    have bars_v : v.bars = s.bars := by
      rw [hv, hu]
      simp
    refine ⟨u.takeNotice n, hu ▸ next, ?_, ?_, ?_, ?_, ?_, ?_, ?_, ?_, ?_, ?_, ?_⟩
    · rw [taken, hv, hu]
      apply State.ext_fields <;> split <;> simp
    · rw [taken, hv, hu]
      split <;> simp [State.removeMessage]
    · rw [← record, taken, hv, hu]
      split <;> simp
    · intro b other
      rw [taken, ← bars_v]
      split
      · exact PerBar.get_set_of_ne _ _ other
      · rfl
    · intro h
      rw [taken, if_pos h, State.latch_bar, State.raise_bars, bars_v]
      rfl
    · intro h
      rw [taken, if_neg h, bars_v]
    all_goals
      have event (e : Sticky) : (u.takeNotice n).event e
          = if stops ∧ e = .defectStop then raised (v.event .defectStop) (.bar n.bar) else v.event e := by
        rw [taken]
        by_cases h : stops
        · rw [if_pos h, State.event_latch, State.event_raise]
          simp only [h, true_and]
          rfl
        · rw [if_neg h, if_neg (fun both => h both.1)]
    · intro first
      rw [event, if_neg (fun both => nomatch both.2), event_v, if_pos ⟨rfl, first⟩]
      rfl
    · intro later
      rw [event, if_neg (fun both => nomatch both.2), event_v, if_neg (fun both => later both.2)]
    · intro h
      rw [event, if_pos ⟨h, rfl⟩, event_v, if_neg (fun both => nomatch both.1)]
      rfl
    · intro h
      rw [event, if_neg (fun both => h both.1), event_v, if_neg (fun both => nomatch both.1)]
    · intro e panel stop
      rw [event, if_neg (fun both => stop both.2), event_v, if_neg (fun both => panel both.1)]
  · intro absent
    rw [next, State.takeNotice, State.findRecord_absent (by rw [State.removeMessage_table]; exact absent)]
    rfl

end Sys2Proof.Machine
end

section
/-! PROOF. The line link: reception, transactions and frame errors, NOP, and LINECLEAR (chapter 9). -/

namespace Sys2Proof.Machine

variable {s : State}

/-! ### Reception (section 9.2) -/

theorem toNat_ofNat_length {payload : List Byte} (size : payload.length ≤ 240) :
    (BitVec.ofNat 8 payload.length).toNat = payload.length := by
  rw [BitVec.toNat_ofNat]
  omega

/-- An intact frame is received, whatever fill follows it (R158, R159). -/
theorem receive_of_intact {linkCheck : Bool} {kind tag check : Byte} {payload : List Byte} (fill : List Byte)
    (size : payload.length ≤ 240)
    (intact : linkCheck = true → check = crc8 ([kind, tag, BitVec.ofNat 8 payload.length] ++ payload)) :
    receive linkCheck ([kind, tag, BitVec.ofNat 8 payload.length] ++ payload ++ [check] ++ fill)
      = .frame kind tag payload := by
  show receive linkCheck (kind :: tag :: BitVec.ofNat 8 payload.length :: (payload ++ [check] ++ fill)) = _
  have whole : ¬ (payload ++ [check] ++ fill).length < payload.length + 1 := by
    simp only [List.length_append, List.length_singleton]
    omega
  have taken : (payload ++ [check] ++ fill).take payload.length = payload := by
    simp
  have checked : (payload ++ [check] ++ fill).getD payload.length 0 = check := by
    simp [List.getD]
  have passes : ¬ (linkCheck && crc8 (kind :: tag :: BitVec.ofNat 8 payload.length :: payload) != check) = true := by
    cases linkCheck with
    | false => exact Bool.false_ne_true
    | true =>
      rw [intact rfl]
      simp
  unfold receive
  simp only [toNat_ofNat_length size, Config.maxPayload, if_neg (not_lt.mpr size), if_neg whole, taken, checked,
    if_neg passes]

/-! ### Decode and encode -/

theorem payloadFits_iff (payload : List Byte) : payloadFits payload = true ↔ payload.length ≤ 240 :=
  decide_eq_true_iff

/-- The payload of a well-formed request fits in a frame (R158). -/
theorem payload_le_of_wf {i : Instr} {kind tag : Byte} {payload : List Byte} (wf : i.wf = true)
    (h : frameOf i = some (kind, tag, payload)) : payload.length ≤ 240 := by
  cases i <;> cases h <;> simp_all [Instr.wf, payloadFits_iff, valueBytes]

open Sys2Proof.Laws in
/-- The frame of every well-formed request stands for that request. -/
theorem commandOf_of_frameOf : ∀ i : Instr, FrameRoundTrip.Statement i
  | .unknown kind tag p => FrameRoundTrip.unknown kind tag p
  | .ptinfo tag p => FrameRoundTrip.ptinfo tag p
  | .pninfo tag p => FrameRoundTrip.pninfo tag p
  | .ndinfo tag p => FrameRoundTrip.ndinfo tag p
  | .cfwrite tag p => FrameRoundTrip.cfwrite tag p
  | .cfread tag p => FrameRoundTrip.cfread tag p
  | .cfwriteStarveDist tag v => FrameRoundTrip.cfwriteStarveDist tag v
  | .cfwriteRoomMark tag v => FrameRoundTrip.cfwriteRoomMark tag v
  | .cfwriteMissLimit tag v => FrameRoundTrip.cfwriteMissLimit tag v
  | .cfwriteBreakLimit tag v => FrameRoundTrip.cfwriteBreakLimit tag v
  | .ptinfoPageMap _ | .pninfoTable _ | .ndinfoBar .. | .cfreadAll _
  | .nop .. | .ptopen .. | .ptwrite .. | .ptclose .. | .ptreopen .. | .ptdelete .. | .ptread .. | .nswrite .. | .nsinfo ..
  | .pnadmit .. | .pnabort .. | .pnlast .. | .brun .. | .bstop .. | .boverride .. | .brehearse .. | .binfo ..
  | .ndrearm .. | .ndrestore .. | .ndretire .. | .ndload .. | .evread .. | .evack .. | .maskset .. | .maskclear ..
  | .posread .. | .lineclear .. => FrameRoundTrip.of_frame rfl fun _ => rfl
  | .powerOn | .resetNLow | .pinReset | .countArrival .. | .cutWindowExpiry .. | .cutDone | .freeze .. | .driveFault ..
  | .strokeEvent .. | .selectEcho .. | .barStatusMessage .. | .defectNotice .. | .consumptionNotice .. | .scanRequest ..
  | .retryCountdownExpiry .. | .scanDataArrival .. | .linkTransactionStart | .frameError .. | .strokeFall
  | .cutDoneFall => FrameRoundTrip.of_none rfl

/-- Settles O55: a frame is received intact and stands for its request. -/
theorem framesDecodeToTheirRequests : Obligations.FramesDecodeToTheirRequests := by
  refine ⟨?_, ?_, ?_, ?_⟩
  · intro i linkCheck bytes fill odd wf encoded short
    obtain ⟨⟨kind, tag, payload⟩, frame, rfl⟩ := Option.map_eq_some_iff.mp encoded
    have size := payload_le_of_wf wf frame
    have received := receive_of_intact (linkCheck := linkCheck) (kind := kind) (tag := tag) fill size fun _ => rfl
    rw [decodeFrame, wholeBytes_bitsOf _ short]
    show (match receive linkCheck ([kind, tag, BitVec.ofNat 8 payload.length] ++ payload
        ++ [crc8 ([kind, tag, BitVec.ofNat 8 payload.length] ++ payload)] ++ fill) with
      | .frame kind tag payload => some (commandOf kind tag payload)
      | .nothing => none
      | _ => some (.frameError _)) = _
    rw [received]
    exact congrArg some (commandOf_of_frameOf i wf kind tag payload frame)
  · refine ⟨rfl, fun bytes b => ?_⟩
    rw [crc8, List.foldl_append]
    rfl
  · intro k n
    refine ⟨bytesOf_length k n, ?_⟩
    induction k with
    | zero => exact fun j h => absurd h (Nat.not_lt_zero j)
    | succ k ih =>
      intro j h
      cases j with
      | zero => rfl
      | succ j =>
        have shifted : k + 1 - 1 - (j + 1) = k - 1 - j := by omega
        rw [shifted]
        exact ih j (by omega)
  · intro framed tag
    refine ⟨fun p _ => ?_, rfl, rfl, fun _ => rfl, rfl, fun v => ⟨rfl, rfl, rfl, rfl⟩⟩
    exact ⟨rfl, rfl, rfl, rfl, rfl, rfl, rfl, rfl, rfl, rfl, rfl, rfl, rfl, rfl, rfl, rfl, rfl, rfl, rfl, rfl, rfl, rfl,
      rfl, rfl, rfl, rfl, rfl, rfl, rfl, rfl, rfl, rfl, fun _ _ => rfl⟩

/-! ### Transactions -/

/-- The port as a transaction that has not executed a frame ends with a frame error (R160, R161). -/
theorem State.frameErrorTaken_eq (s : State) (e : LinkError) : s.frameErrorTaken e = { s with
    link := ⟨.frameError, if s.link.phase = .opened then s.link.output else s.link.slot, .idle⟩
    events := s.events.set 1 ⟨min ((s.event .linkErr).count + 1) 255, some (.linkError e)⟩
    bars := if s.params.linkStop then s.bars.map (fun c =>
        { c with control := { c.control with latched := { c.control.latched with link := true } } })
      else s.bars } := by
  have taken : ((s.enterTransaction.respond .frameError).endTransaction).raise .linkErr (some (.linkError e)) = { s with
      link := ⟨.frameError, if s.link.phase = .opened then s.link.output else s.link.slot, .idle⟩
      events := s.events.set 1 ⟨min ((s.event .linkErr).count + 1) 255, some (.linkError e)⟩ } := by
    unfold State.enterTransaction
    by_cases opened : s.link.phase = .opened
    · simp only [opened, if_true]
      rfl
    · simp only [opened, if_false]
      rfl
  rw [State.frameErrorTaken, taken]
  by_cases stop : s.params.linkStop = true
  · simp only [stop, if_true]
    rfl
  · simp only [stop, Bool.false_eq_true, if_false]

/-- A transaction that the port receives in ends (R157, R158). -/
theorem exec_frameError_of_receiving (takes : s.takesFrames) (open_ : s.link.phase ≠ .answered) (bytes : List Byte)
    {odd : List Bool} (short : odd.length < 8) :
    exec (.frameError (bitsOf bytes ++ odd)) s = .next (s.transactionEnd bytes) := by
  have receiving : s.receiving = true := by
    rw [State.receiving, State.listening_of_takesFrames takes]
    simpa using open_
  show execFrameError _ s = _
  rw [execFrameError, if_pos receiving, wholeBytes_bitsOf _ short]

/-- A transaction that the port receives nothing in ends: LK_SEL alone rises (R157). -/
theorem exec_frameError_of_ignoring (h : s.link.phase = .ignored ∨ s.link.phase = .answered) (bits : List Bool) :
    exec (.frameError bits) s = .next s.endTransaction := by
  have deaf : ¬ s.receiving = true := by
    unfold State.receiving State.listening
    rcases h with h | h <;> simp [h]
  show execFrameError _ s = _
  rw [execFrameError, if_neg deaf]

theorem State.transactionEnd_phase (s : State) (bytes : List Byte) : (s.transactionEnd bytes).link.phase = .idle := by
  unfold State.transactionEnd
  split
  · rfl
  · rw [State.frameErrorTaken_eq]
  · rw [State.frameErrorTaken_eq]
  · rw [State.frameErrorTaken_eq]
  · rfl

theorem State.lineOut_of_undriven {n : Nat} (h : s.link.phase = .idle ∨ s.link.phase = .ignored) : s.lineOut n = none := by
  unfold State.lineOut State.drivesLine
  rcases h with h | h <;> simp [h]

theorem State.lineOut_of_driven (operates : s.inputs.operates = true)
    (h : s.link.phase = .opened ∨ s.link.phase = .answered) (n : Nat) :
    s.lineOut n = some ((s.link.output.bytes.getD (n / 8) 0).getLsbD (7 - n % 8)) := by
  unfold State.lineOut State.drivesLine
  rcases h with h | h <;> simp [h, operates, LinkPort.outByte]

theorem crcFold_zero : crcFold 0 0 = 0 := by decide

theorem crcFold_status : crcFold 0 0x13 = 0x79 := by decide

theorem crcFold_length : crcFold 0x79 0 = 0x68 := by decide

theorem idleResponse_bytes : Response.bytes ⟨0, 0, .ok, []⟩ = [0x00, 0x00, 0x00, 0x00, 0x00] := by
  have check : crc8 [0, 0, 0, 0] = 0 := by
    simp only [crc8, List.foldl_cons, List.foldl_nil, crcFold_zero]
  exact congrArg (fun c => [0, 0, 0, 0, c]) check

theorem frameErrorResponse_bytes : Response.bytes ⟨0, 0, .frameError, []⟩ = [0x00, 0x00, 0x13, 0x00, 0x68] := by
  have check : crc8 [0, 0, 0x13, 0] = 0x68 := by
    simp only [crc8, List.foldl_cons, List.foldl_nil, crcFold_zero, crcFold_status, crcFold_length]
  exact congrArg (fun c => [0, 0, 0x13, 0, c]) check

/-- Settles O52: each way a transaction begins, sends and ends. -/
theorem transactionsBeginAndEnd : Obligations.TransactionsBeginAndEnd := by
  intro s odd operates short output ended fails code carries
  have code_eq (st : Status) : st.code = code st := by
    cases st <;> rfl
  refine ⟨?_, ?_, ?_, ?_, ?_, ?_⟩
  · show execLinkTransactionStart s = _
    rw [execLinkTransactionStart, if_pos operates]
    rfl
  · intro driven kind tag st payload sent body
    have out (n : Nat) : s.lineOut n
        = some (((Response.bytes ⟨kind, tag, st, payload⟩).getD (n / 8) 0).getLsbD (7 - n % 8)) := by
      rw [State.lineOut_of_driven operates driven, sent]
    have layout : Response.bytes ⟨kind, tag, st, payload⟩ = body ++ [crc8 body] := by
      rw [Response.bytes, code_eq]
      rfl
    refine ⟨fun n => (out n).trans (by rw [layout]), ?_, ?_⟩
    · rintro rfl rfl rfl rfl n
      rw [out n, idleResponse_bytes]
    · rintro rfl rfl rfl rfl n
      rw [out n, frameErrorResponse_bytes]
  · exact fun undriven n => State.lineOut_of_undriven undriven
  · exact fun deaf bytes => exec_frameError_of_ignoring deaf _
  · intro bytes
    by_cases receives : s.link.phase = .ignored ∨ s.link.phase = .answered
    · exact ⟨_, exec_frameError_of_ignoring receives _, rfl, fun n => State.lineOut_of_undriven (.inl rfl)⟩
    · rw [not_or] at receives
      have phase := s.transactionEnd_phase bytes
      exact ⟨_, exec_frameError_of_receiving ⟨operates, receives.1⟩ receives.2 bytes short, phase,
        fun n => State.lineOut_of_undriven (.inl phase)⟩
  · intro open_
    have takes : s.takesFrames := ⟨operates, by rcases open_ with h | h <;> simp [h]⟩
    have unanswered : s.link.phase ≠ .answered := by rcases open_ with h | h <;> simp [h]
    have failed {bytes : List Byte} {e : LinkError} (taken : s.transactionEnd bytes = s.frameErrorTaken e) :
        fails bytes e := by
      show exec _ s = _
      rw [exec_frameError_of_receiving takes unanswered bytes short, taken, State.frameErrorTaken_eq]
      rfl
    refine ⟨?_, fun x => failed rfl, fun x y => failed rfl, ?_, ?_, ?_⟩
    · show exec (.frameError (bitsOf [] ++ odd)) s = _
      rw [exec_frameError_of_receiving takes unanswered [] short]
      show Host.Outcome.next (s.enterTransaction.endTransaction) = _
      unfold State.enterTransaction
      by_cases opened : s.link.phase = .opened
      · simp only [output, opened, if_true]
        rfl
      · simp only [output, opened, if_false]
        rfl
    · intro x y n rest long
      refine failed ?_
      have received : receive s.params.linkCheck (x :: y :: n :: rest) = .overlength := if_pos long
      rw [State.transactionEnd, received]
    · intro x y n rest fits missing
      refine failed ?_
      have received : receive s.params.linkCheck (x :: y :: n :: rest) = .truncated :=
        (if_neg (by simpa [Config.maxPayload] using fits)).trans (if_pos (by omega))
      rw [State.transactionEnd, received]
    · intro x y n check payload fill fits size checks wrong
      refine failed ?_
      have received : receive s.params.linkCheck (x :: y :: n :: payload ++ check :: fill) = .badCheck := by
        show receive s.params.linkCheck (x :: y :: n :: (payload ++ check :: fill)) = _
        have whole : ¬ (payload ++ check :: fill).length < payload.length + 1 := by
          simp only [List.length_append, List.length_cons]
          omega
        have differs : (s.params.linkCheck && crc8 (x :: y :: n :: (payload ++ check :: fill).take payload.length)
            != (payload ++ check :: fill).getD payload.length 0) = true := by
          simpa [checks, List.getD] using fun same => wrong same.symm
        unfold receive
        simp only [← size, Config.maxPayload, if_neg (not_lt.mpr (size ▸ fits)), if_neg whole, if_pos differs]
      rw [State.transactionEnd, received]

/-- Settles O53: the end of the transaction carries out the frame's request, and LK_SEL rises. -/
theorem framesCarryRequests : Obligations.FramesCarryRequests := by
  intro s kind tag check payload fill odd takes size short intact
  refine ⟨?_, ?_⟩
  · intro open_
    have received := receive_of_intact fill size intact
    refine ⟨(ownerAnswer kind payload s.enterTransaction).state.respond
      ⟨kind, tag, (ownerAnswer kind payload s.enterTransaction).status,
        (ownerAnswer kind payload s.enterTransaction).payload⟩, ?_, ?_⟩
    · rw [exec_commandOf, request, if_pos (State.listening_of_takesFrames takes)]
    · rw [exec_frameError_of_receiving takes open_ _ short, State.transactionEnd, received]
      rfl
  · intro outside
    exact request_of_refusal takes (owner := ownerAnswer kind payload) fun l => ownerAnswer_unknown outside payload _

/-! ### NOP and LINECLEAR -/

/-- Settles O51. -/
theorem nopAnswered : Obligations.NopAnswered := by
  intro s tag takes
  exact ⟨request_of_report takes (owner := nop []) fun _ => rfl,
    fun p filled => request_of_refusal takes (owner := nop p) fun _ => if_pos (by simpa using filled)⟩

/-- Settles O54: the whole next state, and the chains that run on. -/
theorem lineCleared : Obligations.LineCleared := by
  intro s tag takes
  have cleared : exec (.lineclear tag []) s = .next { s.lineClear with
      link := s.link.answered 0x57 tag .ok [BitVec.ofNat 8 s.table.records.length] } :=
    request_of_answer takes (owner := lineclear []) (u := s.lineClear) fun _ => rfl
  refine ⟨cleared, ?_, ?_⟩
  · intro t next b
    obtain rfl := Host.Outcome.next.inj (cleared.symm.trans next)
    refine ⟨s.lineClear_scanOut b, ?_⟩
    show (s.lineClear.scans.get b).scan = none
    rw [State.lineClear, PerBar.get_map, SensorChain.scan_abandon]
  · exact fun p filled => request_of_refusal takes (owner := lineclear p) fun _ => if_pos (by simpa using filled)

end Sys2Proof.Machine
end

section
/-! PROOF. What payload bytes name, and the requests for needle sets, reports of the store and PTOPEN (sections 2.1, 2.2
and 2.7). -/

namespace Sys2Proof.Machine

variable {s : State}

/-! ### Bytes and what they name -/

/-- The number in one byte of a payload, 0 past its end. -/
theorem fieldByte_eq (payload : List Byte) (i : Nat) : fieldByte payload i = (payload.getD i 0).toNat := by
  induction payload generalizing i with
  | nil => simp [fieldByte, field, numberOf]
  | cons b rest ih =>
    cases i with
    | zero => exact fieldByte_cons b rest
    | succ i => exact ih i

theorem toNat_ofNat_of_lt {n : Nat} (h : n < 256) : (BitVec.ofNat 8 n).toNat = n := by
  rw [BitVec.toNat_ofNat]
  omega

@[simp] theorem patternOf_byte (p : PatternId) : patternOf? (BitVec.ofNat 8 (p.val + 1)).toNat = some p := by
  rw [toNat_ofNat_of_lt (by omega)]
  exact patternOf_code p

@[simp] theorem pageOf_byte (g : PageNo) : pageOf? (BitVec.ofNat 8 g.val).toNat = some g := by
  rw [toNat_ofNat_of_lt (by omega)]
  exact dif_pos g.isLt

@[simp] theorem indexOf_byte (i : EntryNo) : indexOf? (BitVec.ofNat 8 i.val).toNat = some i := by
  rw [toNat_ofNat_of_lt (by omega)]
  exact dif_pos i.isLt

@[simp] theorem setOf_byte (n : SetNo) : setOf? (BitVec.ofNat 8 n.val).toNat = some n := by
  rw [toNat_ofNat_of_lt (by omega)]
  exact dif_pos n.isLt

@[simp] theorem needleOf_byte (n : NeedleNo) : needleOf? (BitVec.ofNat 8 n.val).toNat = some n := by
  rw [toNat_ofNat_of_lt (by omega)]
  exact dif_pos n.isLt

@[simp] theorem barOf_barNumber (b : Bar) : barOf? (barNumber b).toNat = some b := by
  cases b <;> rfl

theorem patternOf_eq_none {n : Nat} (h : n = 0 ∨ 32 < n) : patternOf? n = none :=
  dif_neg (by omega)

theorem pageOf_eq_none {n : Nat} (h : 15 < n) : pageOf? n = none :=
  dif_neg (by omega)

theorem indexOf_eq_none {n : Nat} (h : 63 < n) : indexOf? n = none :=
  dif_neg (by omega)

theorem setOf_eq_none {n : Nat} (h : 63 < n) : setOf? n = none :=
  dif_neg (by omega)

theorem needleOf_eq_none {n : Nat} (h : 39 < n) : needleOf? n = none :=
  dif_neg (by omega)

theorem barOf_eq_none {n : Nat} (h : 2 < n) : barOf? n = none := by
  match n with
  | n + 3 => rfl

/-! ### Needle sets -/

theorem getLsbD_needleSetOf (numbers : List Byte) (small : ∀ b ∈ numbers, b.toNat ≤ 39) (k : Nat) :
    (needleSetOf numbers).getLsbD k = true ↔ ∃ b ∈ numbers, b.toNat = k := by
  have folded (l : List Byte) (small : ∀ b ∈ l, b.toNat ≤ 39) (set : NeedleSet) :
      (l.foldl (fun s b => s ||| needleBit b.toNat) set).getLsbD k = true
        ↔ set.getLsbD k = true ∨ ∃ b ∈ l, b.toNat = k := by
    induction l generalizing set with
    | nil => simp
    | cons b l ih =>
      have hb := small b List.mem_cons_self
      have bit : (needleBit b.toNat).getLsbD k = true ↔ b.toNat = k := by
        rw [needleBit, BitVec.getLsbD_twoPow]
        simp only [Bool.and_eq_true, decide_eq_true_eq]
        omega
      rw [List.foldl_cons, ih (fun c hc => small c (List.mem_cons_of_mem _ hc)), BitVec.getLsbD_or, Bool.or_eq_true, bit]
      simp [or_assoc]
  rw [needleSetOf, folded numbers small]
  simp

/-- NSWRITE of a set number and as many numbers as it says (R18). -/
theorem nswrite_sized (x m : Byte) {numbers : List Byte} (size : numbers.length = m.toNat) (s : State) :
    nswrite ([x, m] ++ numbers) s =
      match setOf? x.toNat with
      | none => refuse s .range
      | some n =>
        if n = 0 ∨ 40 < m.toNat ∨ numbers.any (fun b => 39 < b.toNat) then refuse s .range
        else if 0 < s.store.sets[n].refCount then refuse s .inUse
        else accept (s.setStore { s.store with sets := s.store.sets.set n ⟨needleSetOf numbers, s.store.sets[n].refCount⟩ })
          [] := by
  have sized : ¬ (([x, m] ++ numbers).length < 2 ∨ ([x, m] ++ numbers).length ≠ 2 + m.toNat) := by
    simp only [List.length_append, List.length_cons, List.length_nil]
    omega
  unfold nswrite
  simp only [fieldByte_eq, List.cons_append, List.nil_append, List.getD_cons_zero, List.getD_cons_succ, List.drop_succ_cons,
    List.drop_zero]
  exact if_neg sized

/-- Settles O21: the numbers given become the members, and the checks in their order. -/
theorem needleSetWritten : Obligations.NeedleSetWritten := by
  intro s tag takes asked
  refine ⟨?_, ?_, ?_⟩
  · intro n numbers positive few small p
    have count : (BitVec.ofNat 8 numbers.length).toNat = numbers.length := toNat_ofNat_of_lt (by omega)
    have passes : ¬ (n = 0 ∨ 40 < (BitVec.ofNat 8 numbers.length).toNat
        ∨ numbers.any (fun b => decide (39 < b.toNat)) = true) := by
      rw [count, List.any_eq_true]
      rintro (zero | many | ⟨b, hb, large⟩)
      · exact positive zero
      · omega
      · have := small b hb
        simp only [decide_eq_true_eq] at large
        omega
    have written (u : State) : nswrite p u = if 0 < u.store.sets[n].refCount then refuse u .inUse
        else accept (u.setStore { u.store with
          sets := u.store.sets.set n ⟨needleSetOf numbers, u.store.sets[n].refCount⟩ }) [] := by
      rw [nswrite_sized _ _ count.symm, setOf_byte]
      exact if_neg passes
    refine ⟨fun unused => ⟨needleSetOf numbers, getLsbD_needleSetOf numbers small, ?_⟩, fun used => ?_⟩
    · refine request_of_answer takes (owner := nswrite p) (st := .ok) (p := [])
        (u := s.setStore { s.store with sets := s.store.sets.set n ⟨needleSetOf numbers, 0⟩ }) fun l => ?_
      refine (written _).trans ((if_neg (not_lt.mpr (Nat.le_of_eq unused))).trans ?_)
      show accept ({ s with link := l }.setStore { s.store with sets := s.store.sets.set n ⟨_, s.store.sets[n].refCount⟩ }) _
        = _
      rw [unused]
      rfl
    · exact request_of_refusal takes (owner := nswrite p) fun l => (written _).trans (if_pos used)
  · intro x m numbers size outside
    refine request_of_refusal takes (owner := nswrite ([x, m] ++ numbers)) fun l => ?_
    rw [nswrite_sized x m size]
    rcases named : setOf? x.toNat with - | n
    · rfl
    · refine if_pos ?_
      rcases outside with zero | large | many | ⟨b, hb, large⟩
      · rw [zero] at named
        exact .inl (Option.some.inj named).symm
      · rw [setOf_eq_none large] at named
        exact absurd named nofun
      · exact .inr (.inl many)
      · exact .inr (.inr (List.any_eq_true.mpr ⟨b, hb, decide_eq_true large⟩))
  · intro p sizes
    refine request_of_refusal takes (owner := nswrite p) fun l => if_pos ?_
    rw [fieldByte_eq]
    exact sizes

/-! ### Reports of the store -/

theorem mem_members_iff (set : NeedleSet) (n : NeedleNo) : n ∈ members set ↔ set.getLsbD n.val = true := by
  simp [members, allNeedles]

/-- The pages of a pattern as a set (R32). -/
theorem Store.getLsbD_pagesOwned (st : Store) (p : PatternId) (g : PageNo) :
    (st.pagesOwned p).getLsbD g.val = true ↔ st.owner[g] = some p := by
  have folded (l : List PageNo) (f : BitVec 16) :
      (l.foldl (fun f g => if st.owner[g] = some p then f ||| BitVec.twoPow 16 g.val else f) f).getLsbD g.val = true
        ↔ f.getLsbD g.val = true ∨ g ∈ l ∧ st.owner[g] = some p := by
    induction l generalizing f with
    | nil => simp
    | cons k l ih =>
      have bit : (BitVec.twoPow 16 k.val).getLsbD g.val = true ↔ g = k := by
        rw [BitVec.getLsbD_twoPow]
        simp only [Bool.and_eq_true, decide_eq_true_eq, Fin.ext_iff]
        omega
      rw [List.foldl_cons, ih, List.mem_cons]
      by_cases owned : st.owner[k] = some p
      · rw [if_pos owned, BitVec.getLsbD_or, Bool.or_eq_true, bit]
        constructor
        · rintro ((old | rfl) | ⟨later, mine⟩)
          · exact .inl old
          · exact .inr ⟨.inl rfl, owned⟩
          · exact .inr ⟨.inr later, mine⟩
        · rintro (old | ⟨rfl | later, mine⟩)
          · exact .inl (.inl old)
          · exact .inl (.inr rfl)
          · exact .inr ⟨later, mine⟩
      · rw [if_neg owned]
        constructor
        · rintro (old | ⟨later, mine⟩)
          · exact .inl old
          · exact .inr ⟨.inr later, mine⟩
        · rintro (old | ⟨rfl | later, mine⟩)
          · exact .inl old
          · exact absurd mine owned
          · exact .inr ⟨later, mine⟩
  rw [Store.pagesOwned, folded]
  simp [allPages]

/-- A run of entries read from an index on, index 63 followed by 0 (R34). -/
theorem Store.readRun_eq (st : Store) (g : PageNo) (i : EntryNo) (c : Nat) :
    st.readRun g i c = (List.range c).map (fun k => st.entries[g][(i.val + k) % 64]) := by
  induction c generalizing i with
  | zero => rfl
  | succ c ih =>
    rw [Store.readRun, ih, List.range_succ_eq_map, List.map_cons, List.map_map]
    have here : (i.val + 0) % 64 = i.val := by
      rw [Nat.add_zero, Nat.mod_eq_of_lt i.isLt]
    congr 1
    · simp only [here]
      rfl
    · refine List.map_congr_left fun k _ => ?_
      have later : ((nextIndex i).val + k) % 64 = (i.val + (k + 1)) % 64 := by
        rw [nextIndex, Fin.val_add]
        show ((i.val + 1) % 64 + k) % 64 = _
        omega
      simp only [later, Function.comp_apply, Nat.succ_eq_add_one]

/-- PTREAD of a page, an index and a count (R34). -/
theorem ptread_named (g : PageNo) (i : EntryNo) {c : Nat} (some_ : 1 ≤ c) (most : c ≤ 29) (s : State) :
    ptread [BitVec.ofNat 8 g.val, BitVec.ofNat 8 i.val, BitVec.ofNat 8 c] s
      = accept s ([BitVec.ofNat 8 g.val, BitVec.ofNat 8 i.val, BitVec.ofNat 8 c, patternCode s.store.owner[g]]
        ++ (List.range c).flatMap (fun k => (s.store.entries[g][(i.val + k) % 64]).bytes)) := by
  have count : (BitVec.ofNat 8 c).toNat = c := toNat_ofNat_of_lt (by omega)
  unfold ptread
  simp only [fieldByte_eq, List.getD_cons_zero, List.getD_cons_succ, pageOf_byte, indexOf_byte, count,
    Store.readRun_eq, List.flatMap_map]
  exact (if_neg (by simp)).trans (if_neg (by unfold Config.maxRun; omega))

/-- Settles O22: the three reports, and their refusals. -/
theorem storeReported : Obligations.StoreReported := by
  intro s tag takes
  refine ⟨⟨fun n => ?_, fun i large => ?_, fun p size => ?_⟩, ⟨fun p => ?_, fun i large => ?_, fun p size => ?_⟩,
    ⟨fun g i c c1 c2 => ?_, fun a b c outside => ?_, fun p size => ?_⟩⟩
  · refine ⟨(members s.store.sets[n].members).map Fin.val, ?_, fun k => ?_, ?_⟩
    · rw [List.pairwise_map]
      exact members_ascending _
    · simp only [List.mem_map, mem_members_iff]
      constructor
      · rintro ⟨m, member, rfl⟩
        exact member
      · intro member
        have small : k < 40 := BitVec.lt_of_getLsbD member
        exact ⟨⟨k, small⟩, member, rfl⟩
    · refine request_of_report takes (owner := nsinfo [BitVec.ofNat 8 n.val]) fun l => ?_
      rw [nsinfo, if_neg (by simp)]
      simp only [fieldByte_eq, List.getD_cons_zero, setOf_byte, List.length_map, List.map_map]
      rfl
  · refine request_of_refusal takes (owner := nsinfo [i]) fun l => ?_
    rw [nsinfo, if_neg (by simp), fieldByte_eq, List.getD_cons_zero, setOf_eq_none large]
  · exact request_of_refusal takes (owner := nsinfo p) fun l => if_pos size
  · refine ⟨s.store.pagesOwned p, fun g => s.store.getLsbD_pagesOwned p g, ?_⟩
    refine request_of_report takes (owner := ptinfo [BitVec.ofNat 8 (p.val + 1)]) fun l => ?_
    have nonzero : ¬ (BitVec.ofNat 8 (p.val + 1)).toNat = 0 := by
      rw [toNat_ofNat_of_lt (by omega)]
      omega
    rw [ptinfo, if_neg (by simp), fieldByte_eq, List.getD_cons_zero, if_neg nonzero, patternOf_byte]
    rfl
  · refine request_of_refusal takes (owner := ptinfo [i]) fun l => ?_
    rw [ptinfo, if_neg (by simp), fieldByte_eq, List.getD_cons_zero, if_neg (by omega), patternOf_eq_none (.inr large)]
  · exact request_of_refusal takes (owner := ptinfo p) fun l => if_pos size
  · exact request_of_report takes (owner := ptread _) fun l => ptread_named g i c1 c2 _
  · refine request_of_refusal takes (owner := ptread [a, b, c]) fun l => ?_
    unfold ptread
    simp only [fieldByte_eq, List.getD_cons_zero, List.getD_cons_succ]
    refine (if_neg (by simp)).trans ?_
    split
    · refine if_pos ?_
      rename_i page index
      rcases outside with large | large | zero | many
      · rw [pageOf_eq_none large] at page
        exact absurd page nofun
      · rw [indexOf_eq_none large] at index
        exact absurd index nofun
      · left
        rw [zero]
        decide
      · exact .inr many
    · rfl
  · exact request_of_refusal takes (owner := ptread p) fun l => if_pos size

/-- Settles O23: one byte for each page. -/
theorem pageMapReported : Obligations.PageMapReported := by
  intro s tag takes
  refine ⟨allPages.map (fun g => patternCode s.store.owner[g]), request_of_report takes (owner := pageMap) fun _ => rfl,
    rfl, fun g => ?_⟩
  rw [List.getElem?_map]
  have page : allPages[g.val]? = some g := by
    simp [allPages]
  rw [page]
  rfl

/-! ### PTOPEN -/

/-- PTOPEN of a pattern and a page (R22). -/
theorem ptopen_named (p : PatternId) (g : PageNo) (s : State) :
    ptopen [BitVec.ofNat 8 (p.val + 1), BitVec.ofNat 8 g.val] s =
      if s.store.patterns[p].state ≠ .empty then refuse s .state
      else if s.store.owner[g] ≠ none then refuse s .pageOwned
      else accept (s.setStore { s.store with
        patterns := s.store.patterns.set p { s.store.patterns[p] with state := .opened, home := some g }
        owner := s.store.owner.set g (some p) }) [] := by
  unfold ptopen
  simp only [fieldByte_eq, List.getD_cons_zero, List.getD_cons_succ, patternOf_byte, pageOf_byte]
  exact if_neg (by simp)

/-- Settles O25: the checks in their order, and the pattern and page written. -/
theorem patternOpened : Obligations.PatternOpened := by
  intro s tag takes asked refused
  refine ⟨fun p g => ?_, fun i g outside => ?_, fun p size => ?_⟩
  · intro payload
    refine ⟨fun empty free => ?_, fun filled => ?_, fun empty owned => ?_⟩
    · exact request_of_answer takes (owner := ptopen payload) (st := .ok) (p := []) (u := s.setStore { s.store with
        patterns := s.store.patterns.set p { s.store.patterns[p] with state := .opened, home := some g }
        owner := s.store.owner.set g (some p) }) fun l =>
          (ptopen_named p g _).trans ((if_neg (not_not.mpr empty)).trans (if_neg (not_not.mpr free)))
    · exact request_of_refusal takes (owner := ptopen payload) fun l => (ptopen_named p g _).trans (if_pos filled)
    · exact request_of_refusal takes (owner := ptopen payload) fun l =>
        (ptopen_named p g _).trans ((if_neg (not_not.mpr empty)).trans (if_pos owned))
  · refine request_of_refusal takes (owner := ptopen [i, g]) fun l => ?_
    unfold ptopen
    simp only [fieldByte_eq, List.getD_cons_zero, List.getD_cons_succ]
    refine (if_neg (by simp)).trans ?_
    split
    · rename_i pattern page
      rcases outside with zero | large | large
      · rw [patternOf_eq_none (.inl (by rw [zero]; rfl))] at pattern
        exact absurd pattern nofun
      · rw [patternOf_eq_none (.inr large)] at pattern
        exact absurd pattern nofun
      · rw [pageOf_eq_none large] at page
        exact absurd page nofun
    · rfl
  · exact request_of_refusal takes (owner := ptopen p) fun l => if_pos size

end Sys2Proof.Machine
end

section
/-! PROOF. The eight bytes of a segment entry, and the run of entries PTWRITE writes (sections 2.3 and 2.4). -/

namespace Sys2Proof.Machine

variable {s : State}

/-! ### Numbers of two bytes -/

theorem toNat_append_bytes (b c : Byte) : (b ++ c : BitVec 16).toNat = b.toNat * 256 + c.toNat := by
  have hc := c.isLt
  rw [show (b ++ c : BitVec 16).toNat = b.toNat <<< 8 ||| c.toNat from BitVec.toNat_append b c,
    ← Nat.shiftLeft_add_eq_or_of_lt hc, Nat.shiftLeft_eq]

theorem numberOf_two (b c : Byte) : numberOf [b, c] = (b ++ c : BitVec 16).toNat := by
  rw [toNat_append_bytes]
  simp [numberOf]

theorem bytesOf_append (b c : Byte) : bytesOf 2 (b ++ c : BitVec 16).toNat = [b, c] := by
  have hb := b.isLt
  have hc := c.isLt
  have high : (b.toNat * 256 + c.toNat) / 256 = b.toNat := by omega
  have low : BitVec.ofNat 8 (b.toNat * 256 + c.toNat) = c := by
    apply BitVec.eq_of_toNat_eq
    rw [BitVec.toNat_ofNat]
    omega
  rw [toNat_append_bytes]
  show [BitVec.ofNat 8 ((b.toNat * 256 + c.toNat) / 256), BitVec.ofNat 8 ((b.toNat * 256 + c.toNat) / 1)] = _
  rw [high, Nat.div_one, low, BitVec.ofNat_toNat, BitVec.setWidth_eq]

theorem ofNat_toNat_byte (b : Byte) : byte b.toNat = b := by
  rw [byte, BitVec.ofNat_toNat, BitVec.setWidth_eq]

theorem bytesOf_signed (d e : Byte) : signed2 (d ++ e : BitVec 16).toInt = [d, e] := by
  rw [signed2, BitVec.ofInt_toInt, bytesOf_append]

/-! ### The eight bytes of an entry -/

theorem SegEntry.of?_eq_some_iff {bytes : List Byte} {e : SegEntry} :
    SegEntry.of? bytes = some e ↔ SegEntry.read? bytes = some e ∧ e.wf = true ∧ e.bytes = bytes := by
  unfold SegEntry.of?
  rcases read : SegEntry.read? bytes with - | q
  · simp
  · dsimp only
    constructor
    · intro h
      split at h
      · rename_i ok
        obtain rfl := Option.some.inj h
        simpa using ok
      · exact absurd h nofun
    · rintro ⟨same, wf, layout⟩
      obtain rfl := Option.some.inj same
      rw [if_pos (by simp [wf, layout])]

/-- The fields of eight bytes. -/
theorem fieldSigned2_of (payload : List Byte) (i : Nat) {d e : Byte} {pre post : List Byte}
    (h : payload = pre ++ ([d, e] ++ post)) (at_ : pre.length = i) :
    fieldSigned2 payload i = (d ++ e : BitVec 16).toInt := by
  rw [fieldSigned2, h, field_middle (l := [d, e]) (len := 2) at_ rfl, numberOf_two, BitVec.ofNat_toNat,
    BitVec.setWidth_eq]

theorem SegEntry.read?_eq (k a b c d e f g : Byte) : SegEntry.read? [k, a, b, c, d, e, f, g] = match k.toNat with
    | 0 => some .empty
    | 1 => (setOf? a.toNat).map (fun s => .line s (b ++ c : BitVec 16).toNat (d ++ e : BitVec 16).toInt)
    | 2 => (setOf? a.toNat).map (fun s => .lock s b.toNat (d ++ e : BitVec 16).toInt)
    | 3 => (patternOf? a.toNat).map (fun m => .call m b.toNat)
    | 4 => some .fin
    | 5 => (pageOf? a.toNat).map (fun p => .link p)
    | _ => none := by
  have two : field [k, a, b, c, d, e, f, g] 2 2 = (b ++ c : BitVec 16).toNat :=
    (field_middle (pre := [k, a]) (l := [b, c]) (post := [d, e, f, g]) rfl rfl).trans (numberOf_two b c)
  have four : fieldSigned2 [k, a, b, c, d, e, f, g] 4 = (d ++ e : BitVec 16).toInt :=
    fieldSigned2_of _ 4 (pre := [k, a, b, c]) (post := [f, g]) rfl rfl
  unfold SegEntry.read?
  simp only [fieldByte_eq, List.getD_cons_zero, List.getD_cons_succ, two, four] <;> rfl

/-- The entry eight bytes spell when their kind and fields are those of one. -/
theorem SegEntry.of?_of_read {bytes : List Byte} {e : SegEntry} (read : SegEntry.read? bytes = some e) (p : Prop)
    [Decidable p] (h : (e.wf = true ∧ e.bytes = bytes) ↔ p) : SegEntry.of? bytes = if p then some e else none := by
  rw [SegEntry.of?, read]
  simp only [Bool.and_eq_true, decide_eq_true_eq, h]

theorem SegEntry.of?_of_unread {bytes : List Byte} (read : SegEntry.read? bytes = none) : SegEntry.of? bytes = none := by
  rw [SegEntry.of?, read]

theorem SegEntry.line_bytes (a b c d e : Byte) (h : a.toNat < 64) :
    (SegEntry.line ⟨a.toNat, h⟩ (b ++ c : BitVec 16).toNat (d ++ e : BitVec 16).toInt).bytes = [1, a, b, c, d, e, 0, 0] := by
  rw [SegEntry.bytes, bytesOf_append, bytesOf_signed, ofNat_toNat_byte]
  rfl

theorem SegEntry.line_wf_iff (set : SetNo) (x y : BitVec 16) :
    (SegEntry.line set x.toNat y.toInt).wf = true ↔ x ≠ 0 ∧ y ≠ 0x8000 := by
  have hx : x ≠ 0 ↔ x.toNat ≠ 0 := by
    rw [ne_eq, ← BitVec.toNat_inj]
    rfl
  have hy : y ≠ 0x8000 ↔ y.toInt ≠ -32768 := by
    rw [ne_eq, ← BitVec.toInt_inj]
    rfl
  have xs := x.isLt
  have low := y.le_toInt
  have high := y.toInt_lt
  rw [hx, hy, SegEntry.wf]
  simp only [Bool.and_eq_true, decide_eq_true_eq]
  omega

theorem SegEntry.lock_bytes (a b d e : Byte) (h : a.toNat < 64) :
    (SegEntry.lock ⟨a.toNat, h⟩ b.toNat (d ++ e : BitVec 16).toInt).bytes = [2, a, b, 0, d, e, 0, 0] := by
  rw [SegEntry.bytes, bytesOf_signed, ofNat_toNat_byte, ofNat_toNat_byte]
  rfl

theorem SegEntry.call_bytes (a b : Byte) (h : 1 ≤ a.toNat ∧ a.toNat ≤ 32) :
    (SegEntry.call ⟨a.toNat - 1, by omega⟩ b.toNat).bytes = [3, a, b, 0, 0, 0, 0, 0] := by
  rw [SegEntry.bytes, PatternId.number, Nat.sub_add_cancel h.1, ofNat_toNat_byte, ofNat_toNat_byte]

theorem SegEntry.link_bytes (a : Byte) (h : a.toNat < 16) :
    (SegEntry.link ⟨a.toNat, h⟩).bytes = [5, a, 0, 0, 0, 0, 0, 0] := by
  rw [SegEntry.bytes, ofNat_toNat_byte]

theorem SegEntry.bytes_length (e : SegEntry) : e.bytes.length = 8 := by
  cases e <;> rfl

/-- A number of 16 bits from its two bytes. -/
theorem append_bytesOf {n : Nat} (h : n < 65536) : (byte (n / 256 ^ 1) ++ byte (n / 256 ^ 0) : BitVec 16) = BitVec.ofNat 16 n := by
  apply BitVec.eq_of_toNat_eq
  rw [toNat_append_bytes, byte, byte, BitVec.toNat_ofNat, BitVec.toNat_ofNat, BitVec.toNat_ofNat]
  omega

/-- The bytes an entry goes out in read back as it. -/
theorem SegEntry.read?_bytes {e : SegEntry} (wf : e.wf = true) : SegEntry.read? e.bytes = some e := by
  have signed {i : Int} (low : -32768 ≤ i) (high : i ≤ 32767) :
      (byte ((BitVec.ofInt 16 i).toNat / 256 ^ 1) ++ byte ((BitVec.ofInt 16 i).toNat / 256 ^ 0) : BitVec 16).toInt = i := by
    rw [append_bytesOf (BitVec.isLt _), toInt_ofInt_16 low high]
  cases e with
  | empty => exact SegEntry.read?_eq 0 0 0 0 0 0 0 0
  | line set dy dx =>
    simp only [SegEntry.wf, Bool.and_eq_true, decide_eq_true_eq] at wf
    obtain ⟨⟨⟨y1, y2⟩, x1⟩, x2⟩ := wf
    refine (SegEntry.read?_eq 1 (byte set.val) _ _ _ _ 0 0).trans ?_
    show (setOf? (BitVec.ofNat 8 set.val).toNat).map _ = _
    rw [setOf_byte, Option.map_some, append_bytesOf (by omega), signed (by omega) (by omega), BitVec.toNat_ofNat,
      Nat.mod_eq_of_lt (by omega)]
  | lock set n a =>
    simp only [SegEntry.wf, Bool.and_eq_true, decide_eq_true_eq] at wf
    obtain ⟨⟨⟨n1, n2⟩, a1⟩, a2⟩ := wf
    refine (SegEntry.read?_eq 2 (byte set.val) (byte n) 0 _ _ 0 0).trans ?_
    show (setOf? (BitVec.ofNat 8 set.val).toNat).map _ = _
    rw [setOf_byte, Option.map_some, signed (by omega) (by omega), byte_toNat_of_lt (by omega)]
  | call motif r =>
    simp only [SegEntry.wf, Bool.and_eq_true, decide_eq_true_eq] at wf
    refine (SegEntry.read?_eq 3 (byte motif.number) (byte r) 0 0 0 0 0).trans ?_
    show (patternOf? (BitVec.ofNat 8 (motif.val + 1)).toNat).map _ = _
    rw [patternOf_byte, Option.map_some, byte_toNat_of_lt (by omega)]
  | fin => exact SegEntry.read?_eq 4 0 0 0 0 0 0 0
  | link page =>
    refine (SegEntry.read?_eq 5 (byte page.val) 0 0 0 0 0 0).trans ?_
    show (pageOf? (BitVec.ofNat 8 page.val).toNat).map _ = _
    rw [pageOf_byte, Option.map_some]

theorem zero_eq_comm (x : Byte) : 0 = x ↔ x = 0 := eq_comm

/-- Settles O24: kind by kind, an entry's bytes and ranges. -/
theorem entryLayout : Obligations.EntryLayout := by
  refine ⟨fun e wf => ⟨e.bytes_length, SegEntry.of?_eq_some_iff.mpr ⟨SegEntry.read?_bytes wf, wf, rfl⟩⟩,
    fun bytes e h => (SegEntry.of?_eq_some_iff.mp h).2, fun k a b c d e f g => ?_⟩
  have read := SegEntry.read?_eq k a b c d e f g
  have kind {n : Byte} (h : k.toNat = n.toNat) : k = n := BitVec.eq_of_toNat_eq h
  split
  case h_1 h =>
    rw [h] at read
    refine SegEntry.of?_of_read read _ ?_
    rw [show k = 0 from kind h]
    simp only [SegEntry.wf, SegEntry.bytes, List.cons.injEq, zero_eq_comm, true_and, and_true]
  case h_2 h =>
    rw [h] at read
    split
    · rename_i small
      refine SegEntry.of?_of_read (read.trans (by rw [setOf?, dif_pos small]; rfl)) _ ?_
      rw [SegEntry.line_wf_iff, SegEntry.line_bytes, show k = 1 from kind h]
      simp only [List.cons.injEq, zero_eq_comm, true_and, and_true, and_assoc]
    · rename_i large
      exact SegEntry.of?_of_unread (read.trans (by rw [setOf?, dif_neg large]; rfl))
  case h_3 h =>
    rw [h] at read
    split
    · rename_i small
      refine SegEntry.of?_of_read (read.trans (by rw [setOf?, dif_pos small]; rfl)) _ ?_
      rw [SegEntry.lock_bytes, show k = 2 from kind h, SegEntry.wf]
      simp only [List.cons.injEq, zero_eq_comm, true_and, and_true, Bool.and_eq_true, decide_eq_true_eq]
      tauto
    · rename_i large
      exact SegEntry.of?_of_unread (read.trans (by rw [setOf?, dif_neg large]; rfl))
  case h_4 h =>
    rw [h] at read
    split
    · rename_i named
      refine SegEntry.of?_of_read (read.trans (by rw [patternOf?, dif_pos named]; rfl)) _ ?_
      rw [SegEntry.call_bytes _ _ named, show k = 3 from kind h, SegEntry.wf]
      have := b.isLt
      have zero : b ≠ 0 ↔ 1 ≤ b.toNat := by
        rw [ne_eq, ← BitVec.toNat_inj, Nat.one_le_iff_ne_zero]
        rfl
      simp only [zero, List.cons.injEq, zero_eq_comm, true_and, and_true, Bool.and_eq_true, decide_eq_true_eq]
      have most : b.toNat ≤ 255 := by omega
      simp only [most, and_true]
    · rename_i unnamed
      exact SegEntry.of?_of_unread (read.trans (by rw [patternOf?, dif_neg unnamed]; rfl))
  case h_5 h =>
    rw [h] at read
    refine SegEntry.of?_of_read read _ ?_
    rw [show k = 4 from kind h]
    simp only [SegEntry.wf, SegEntry.bytes, List.cons.injEq, zero_eq_comm, true_and, and_true]
  case h_6 h =>
    rw [h] at read
    split
    · rename_i small
      refine SegEntry.of?_of_read (read.trans (by rw [pageOf?, dif_pos small]; rfl)) _ ?_
      rw [SegEntry.link_bytes, show k = 5 from kind h, SegEntry.wf]
      simp only [List.cons.injEq, zero_eq_comm, true_and, and_true]
    · rename_i large
      exact SegEntry.of?_of_unread (read.trans (by rw [pageOf?, dif_neg large]; rfl))
  case h_7 h0 h1 h2 h3 h4 h5 =>
    refine SegEntry.of?_of_unread (read.trans ?_)
    split
    · exact absurd (by assumption) h0
    · exact absurd (by assumption) h1
    · exact absurd (by assumption) h2
    · exact absurd (by assumption) h3
    · exact absurd (by assumption) h4
    · exact absurd (by assumption) h5
    · rfl

end Sys2Proof.Machine
end

section
/-! PROOF. PTWRITE: the run of entries that its bytes spell, and what is written (sections 2.3 and 2.4). -/

namespace Sys2Proof.Machine

variable {s : State} {st : Store}

/-! ### The run of bytes -/

theorem entryChunks_entries (es : List SegEntry) (left : Nat) (more : List Byte) :
    entryChunks (es.length + left) (es.flatMap SegEntry.bytes ++ more) = es.map SegEntry.bytes ++ entryChunks left more := by
  induction es with
  | nil => simp
  | cons e es ih =>
    have size := e.bytes_length
    rw [List.length_cons, show es.length + 1 + left = es.length + left + 1 by omega, entryChunks, List.flatMap_cons,
      List.append_assoc, List.take_left' size, List.drop_left' size, ih]
    rfl

theorem readEntries_append {es : List SegEntry} (wf : ∀ e ∈ es, e.wf = true) (rest : List (List Byte)) (i : Nat) :
    readEntries (es.map SegEntry.bytes ++ rest) i = match readEntries rest (i + es.length) with
      | .ok more => .ok (es ++ more)
      | .error k => .error k := by
  induction es generalizing i with
  | nil =>
    rw [List.map_nil, List.nil_append, List.length_nil, Nat.add_zero]
    cases readEntries rest i <;> rfl
  | cons e es ih =>
    have here := wf e List.mem_cons_self
    rw [List.map_cons, List.cons_append, readEntries,
      SegEntry.of?_eq_some_iff.mpr ⟨SegEntry.read?_bytes here, here, rfl⟩]
    dsimp only
    rw [ih (fun q hq => wf q (List.mem_cons_of_mem _ hq)), List.length_cons,
      show i + 1 + es.length = i + (es.length + 1) by omega]
    cases readEntries rest (i + (es.length + 1)) <;> rfl

/-- A run of well-formed entries reads back. -/
theorem readEntries_entries {es : List SegEntry} (wf : ∀ e ∈ es, e.wf = true) :
    readEntries (entryChunks es.length (es.flatMap SegEntry.bytes)) 0 = .ok es := by
  have chunks := entryChunks_entries es 0 []
  have read := readEntries_append wf [] 0
  rw [Nat.add_zero, List.append_nil, entryChunks, List.append_nil] at chunks
  rw [List.append_nil] at read
  rw [chunks, read]
  exact congrArg Except.ok (List.append_nil es)

/-- The first malformed entry of a run is the one named (R25). -/
theorem readEntries_bad {good : List SegEntry} (wf : ∀ e ∈ good, e.wf = true) {bad : List Byte} (size : bad.length = 8)
    (malformed : SegEntry.of? bad = none) (left : Nat) (more : List Byte) :
    readEntries (entryChunks (good.length + 1 + left) (good.flatMap SegEntry.bytes ++ bad ++ more)) 0
      = .error good.length := by
  rw [Nat.add_assoc, List.append_assoc, entryChunks_entries, Nat.add_comm 1 left, entryChunks, List.take_left' size,
    readEntries_append wf, readEntries, malformed]
  exact congrArg Except.error (Nat.zero_add _)

/-! ### What is written -/

/-- Where a run of entries written on a page stands, index 63 followed by 0 (R26). -/
theorem Store.entry_writeRun_getD (g : PageNo) (i k : EntryNo) (es : List SegEntry) (fits : es.length ≤ 64) :
    (st.writeRun g i es).entry (g, k) = es.getD ((k.val + 64 - i.val) % 64) (st.entry (g, k)) := by
  induction es generalizing st i with
  | nil => rfl
  | cons e es ih =>
    have hi := i.isLt
    have hk := k.isLt
    rw [List.length_cons] at fits
    have next : (nextIndex i).val = (i.val + 1) % 64 := by
      rw [nextIndex, Fin.val_add]
      rfl
    rw [Store.writeRun, ih _ (by omega), next, Store.entry_write]
    by_cases here : k = i
    · subst here
      have first : (k.val + 64 - k.val) % 64 = 0 := by omega
      have past : es.length ≤ (k.val + 64 - (k.val + 1) % 64) % 64 := by omega
      rw [if_pos rfl, first, List.getD_cons_zero, List.getD_eq_default _ _ past]
    · have distinct : k.val ≠ i.val := fun same => here (Fin.ext same)
      have later : (k.val + 64 - i.val) % 64 = (k.val + 64 - (i.val + 1) % 64) % 64 + 1 := by omega
      rw [if_neg (fun same => here (congrArg Prod.snd same)), later, List.getD_cons_succ]

/-- PTWRITE of a pattern, a page, an index and a count, with a run of that many entries (R25, R26). -/
theorem ptwrite_named (p : PatternId) (g : PageNo) (i : EntryNo) {c : Nat} {run : List Byte} (c1 : 1 ≤ c) (c2 : c ≤ 29)
    (size : run.length = 8 * c) (s : State) :
    ptwrite ([BitVec.ofNat 8 (p.val + 1), BitVec.ofNat 8 g.val, BitVec.ofNat 8 i.val, BitVec.ofNat 8 c] ++ run) s =
      if s.store.patterns[p].state ≠ .opened then refuse s .state
      else if s.store.owner[g] ≠ none ∧ s.store.owner[g] ≠ some p then refuse s .pageOwned
      else match readEntries (entryChunks c run) 0 with
        | .error k => ⟨s, .badEntry, [BitVec.ofNat 8 g.val, BitVec.ofNat 8 ((i.val + k) % 64)]⟩
        | .ok es => accept (s.setStore ((s.store.setOwner g (some p)).writeRun g i es)) [] := by
  have count : (BitVec.ofNat 8 c).toNat = c := toNat_ofNat_of_lt (by omega)
  unfold ptwrite
  simp only [fieldByte_eq, List.cons_append, List.nil_append, List.getD_cons_zero, List.getD_cons_succ, patternOf_byte,
    pageOf_byte, indexOf_byte, count, List.drop_succ_cons, List.drop_zero]
  refine (if_neg ?_).trans (if_neg ?_)
  · simp only [List.length_cons]
    omega
  · unfold Config.maxRun
    omega

/-- Settles O26: the run is read, and written from the index on. -/
theorem entriesWritten : Obligations.EntriesWritten := by
  intro s tag p g i takes asked refused mine
  have owned : ¬ (s.store.owner[g] ≠ none ∧ s.store.owner[g] ≠ some p) ↔ mine := by
    simp only [mine, not_and_or, not_not]
  refine ⟨?_, ?_, ?_, ?_, ?_⟩
  · intro es some_ few wf opened own
    have size : (es.flatMap SegEntry.bytes).length = 8 * es.length := by
      simp [List.length_flatMap, SegEntry.bytes_length, Nat.mul_comm]
    obtain ⟨entries, frame⟩ := (s.store.setOwner g (some p)).writeRun_frame g i es
    refine ⟨entries, fun h k => ?_, ?_⟩
    · have read (h : PageNo) (k : EntryNo) :
          entries[h][k] = ((s.store.setOwner g (some p)).writeRun g i es).entry (h, k) := by
        rw [frame]
        rfl
      rw [read]
      by_cases same : h = g
      · subst same
        rw [if_pos rfl, Store.entry_writeRun_getD _ _ _ _ (by omega)]
        rfl
      · rw [if_neg same, Store.entry_writeRun_of_ne _ same]
        rfl
    · refine request_of_answer takes (st := .ok) (p := []) (u := s.setStore { s.store with
        entries := entries
        owner := s.store.owner.set g (some p) }) fun l => ?_
      refine (ptwrite_named p g i some_ few size _).trans ((if_neg (not_not.mpr opened)).trans
        ((if_neg (owned.mpr own)).trans ?_))
      rw [readEntries_entries wf]
      exact congrArg (fun st => accept (State.setStore { s with link := l } st) []) frame
  · intro c run c1 c2 size
    refine ⟨fun closed => ?_, fun opened foreign => ?_⟩
    · exact request_of_refusal takes fun l => (ptwrite_named p g i c1 c2 size _).trans (if_pos closed)
    · exact request_of_refusal takes fun l => (ptwrite_named p g i c1 c2 size _).trans
        ((if_neg (not_not.mpr opened)).trans (if_pos (not_not.mp (mt owned.mp foreign))))
  · intro good bad more left few wf badSize malformed moreSize opened own
    have size : (good.flatMap SegEntry.bytes ++ bad ++ more).length = 8 * (good.length + 1 + left) := by
      simp only [List.length_append, List.length_flatMap, SegEntry.bytes_length, badSize, moreSize, List.map_const',
        List.sum_replicate, smul_eq_mul]
      omega
    refine request_of_report takes fun l => ?_
    refine (ptwrite_named p g i (by omega) few size _).trans ((if_neg (not_not.mpr opened)).trans
      ((if_neg (owned.mpr own)).trans ?_))
    rw [readEntries_bad wf badSize malformed]
  · intro id page first count run size outside
    refine request_of_refusal takes (owner := ptwrite ([id, page, first, count] ++ run)) fun l => ?_
    unfold ptwrite
    simp only [fieldByte_eq, List.cons_append, List.nil_append, List.getD_cons_zero, List.getD_cons_succ]
    refine (if_neg (by simp only [List.length_cons]; omega)).trans ?_
    split
    · rename_i pattern number index
      refine if_pos ?_
      rcases outside with zero | large | large | large | zero | many
      · rw [patternOf_eq_none (.inl (by rw [zero]; rfl))] at pattern
        exact absurd pattern nofun
      · rw [patternOf_eq_none (.inr large)] at pattern
        exact absurd pattern nofun
      · rw [pageOf_eq_none large] at number
        exact absurd number nofun
      · rw [indexOf_eq_none large] at index
        exact absurd index nofun
      · left
        rw [zero]
        decide
      · exact .inr many
    · rfl
  · intro payload sizes
    refine request_of_refusal takes (owner := ptwrite payload) fun l => if_pos ?_
    rw [fieldByte_eq]
    exact sizes

end Sys2Proof.Machine
end

section
/-! PROOF. PTCLOSE, PTREOPEN and PTDELETE: the counts of a closing, taken back along the same walk (sections 2.5 and
2.6). -/

namespace Sys2Proof.Machine

variable {s : State} {st : Store} {p : PatternId} {home : PageNo} {endless : Bool} {path : List Place2}

/-! ### The walked path -/

/-- From every place of a walked path but an END the walk goes on. -/
theorem Store.closingWalk_follows (hw : st.closingWalk p home = .closed endless path) :
    ∀ a ∈ path, st.entry a = .fin ∨ ∃ b, st.Follows p a b := fun a ha =>
  (Store.walk_closed_forall (P := fun _ => True) hw (by simp) trivial (fun _ _ _ _ => trivial) a ha).2

theorem Store.closingWalk_call (hw : st.closingWalk p home = .closed endless path) {a : Place2} (ha : a ∈ path)
    {m : PatternId} {n : Nat} (entry : st.entry a = .call m n) : m ≠ p ∧ st.patterns[m].state = .closed := by
  rcases Store.closingWalk_follows hw a ha with fin | ⟨b, follows⟩
  · exact absurd (entry.symm.trans fin) nofun
  · rw [Store.Follows, entry] at follows
    exact ⟨follows.1, follows.2.1⟩

/-- A walked path never calls its own pattern (R27). -/
theorem Store.callsOn_self (hw : st.closingWalk p home = .closed endless path) : st.callsOn path p = 0 := by
  refine List.countP_eq_zero.mpr fun a ha => ?_
  split
  · rename_i m n entry
    simpa using (Store.closingWalk_call hw ha entry).1
  · exact Bool.false_ne_true

/-! ### A closing and what takes it back -/

/-- The store after a closing: the pattern CLOSED, and each entry of its walked path counted once (R28). -/
def Store.closeAs (st : Store) (p : PatternId) (endless : Bool) (path : List Place2) : Store :=
  (st.setPattern p { st.patterns[p] with state := .closed, endless := endless }).countPath (· + 1) path

theorem Store.closeAs_recounted (st : Store) (p : PatternId) (endless : Bool) (path : List Place2) :
    (st.setPattern p { st.patterns[p] with state := .closed, endless := endless }).Recounted (st.closeAs p endless path)
      (· + 1) (st.callsOn path) (st.namesOn path) :=
  Store.countPath_recounted path

theorem Store.closeAs_frame (st : Store) (p : PatternId) (endless : Bool) (path : List Place2) :
    (st.closeAs p endless path).entries = st.entries ∧ (st.closeAs p endless path).owner = st.owner :=
  ⟨(st.closeAs_recounted p endless path).entries, (st.closeAs_recounted p endless path).owner⟩

theorem Store.closeAs_pattern (st : Store) (p : PatternId) (endless : Bool) (path : List Place2) :
    (st.closeAs p endless path).patterns[p] = { st.patterns[p] with
      state := .closed
      endless := endless
      useCount := st.patterns[p].useCount + st.callsOn path p } := by
  rw [(st.closeAs_recounted p endless path).patterns, iterate_succ, Store.patterns_setPattern, if_pos rfl]

theorem Store.closeAs_other (st : Store) {m : PatternId} (hm : m ≠ p) (endless : Bool) (path : List Place2) :
    (st.closeAs p endless path).patterns[m]
      = { st.patterns[m] with useCount := st.patterns[m].useCount + st.callsOn path m } := by
  rw [(st.closeAs_recounted p endless path).patterns, iterate_succ, Store.patterns_setPattern, if_neg hm]

theorem Store.closeAs_set (st : Store) (p : PatternId) (endless : Bool) (path : List Place2) (n : SetNo) :
    (st.closeAs p endless path).sets[n] = { st.sets[n] with refCount := st.sets[n].refCount + st.namesOn path n } := by
  rw [(st.closeAs_recounted p endless path).sets, iterate_succ]
  rfl

/-- The walk of a closing goes the same way after it. -/
theorem Store.closeAs_walk (hw : st.closingWalk p home = .closed endless path) :
    (st.closeAs p endless path).closingWalk p home = .closed endless path := by
  obtain ⟨entries, owner⟩ := st.closeAs_frame p endless path
  have entry := st.entry_of_entries entries
  refine Store.Stands.walk ⟨fun a _ => congrFun entry a, fun a ha m n call => ?_, fun a ha g link => ?_⟩ hw
  · obtain ⟨other, closed⟩ := Store.closingWalk_call hw ha call
    rw [st.closeAs_other other]
    exact closed
  · rcases Store.closingWalk_follows hw a ha with fin | ⟨b, follows⟩
    · exact absurd (link.symm.trans fin) nofun
    · rw [Store.Follows, link] at follows
      rw [owner]
      exact follows.1

/-- What takes a closing back leaves the pattern CLOSED alone (R30). -/
theorem Store.takeBack_closeAs (hh : st.patterns[p].home = some home)
    (hw : st.closingWalk p home = .closed endless path) : (st.closeAs p endless path).takeBack p
      = st.setPattern p { st.patterns[p] with state := .closed, endless := endless } := by
  have closing := st.closeAs_recounted p endless path
  have back := Store.countPath_recounted (st := st.closeAs p endless path) (f := (· - 1)) path
  have entry := (st.closeAs p endless path).entry_of_entries closing.entries.symm
  have taken : (st.closeAs p endless path).takeBack p = (st.closeAs p endless path).countPath (· - 1) path := by
    have home' : (st.closeAs p endless path).patterns[p].home = some home := by
      rw [st.closeAs_pattern]
      exact hh
    rw [Store.takeBack, home']
    dsimp only
    rw [Store.closeAs_walk hw]
  have sameEntry := st.entry_of_entries (st.closeAs_frame p endless path).1
  rw [taken]
  refine Store.ext_get (back.entries.trans closing.entries) (back.owner.trans closing.owner) (fun m => ?_) fun n => ?_
  · rw [back.patterns, iterate_pred, closing.patterns, iterate_succ,
      Store.callsOn_congr (st := st) (fun a _ => congrFun sameEntry a)]
    simp only [Nat.add_sub_cancel]
  · rw [back.sets, iterate_pred, closing.sets, iterate_succ,
      Store.namesOn_congr (st := st) (fun a _ => congrFun sameEntry a)]
    simp only [Nat.add_sub_cancel]

/-! ### PTCLOSE -/

theorem patternOf_of_outside {i : Byte} (h : i = 0 ∨ 32 < i.toNat) : patternOf? i.toNat = none :=
  patternOf_eq_none (h.imp_left (congrArg BitVec.toNat))

/-- PTCLOSE of an OPEN pattern whose walk succeeds (R27, R28). -/
theorem ptclose_closed (opened : s.store.patterns[p].state = .opened) (hh : s.store.patterns[p].home = some home)
    (hw : s.store.closingWalk p home = .closed endless path) : ptclose [BitVec.ofNat 8 (p.val + 1)] s
      = accept (s.setStore (s.store.closeAs p endless path)) ([flag endless] ++ bytesOf 2 path.length) := by
  unfold ptclose
  refine (if_neg (by simp)).trans ?_
  simp only [fieldByte_eq, List.getD_cons_zero, patternOf_byte, opened, hh, hw, Store.closeAs]

/-- PTCLOSE of an OPEN pattern whose walk fails (R27, R29). -/
theorem ptclose_failed {status : Status} {a : Place2} (opened : s.store.patterns[p].state = .opened)
    (hh : s.store.patterns[p].home = some home) (hw : s.store.closingWalk p home = .failed status a) :
    ptclose [BitVec.ofNat 8 (p.val + 1)] s = ⟨s, status, [byte a.1.val, byte a.2.val]⟩ := by
  unfold ptclose
  refine (if_neg (by simp)).trans ?_
  simp only [fieldByte_eq, List.getD_cons_zero, patternOf_byte, opened, hh, hw]

theorem exec_ptclose_closed (takes : s.takesFrames) (tag : Byte) (opened : s.store.patterns[p].state = .opened)
    (hh : s.store.patterns[p].home = some home) (hw : s.store.closingWalk p home = .closed endless path) :
    exec (.ptclose tag [BitVec.ofNat 8 (p.val + 1)]) s = .next { s with
      store := s.store.closeAs p endless path
      link := s.link.answered 0x12 tag .ok ([flag endless] ++ bytesOf 2 path.length) } :=
  request_of_answer takes (owner := ptclose _) (u := s.setStore (s.store.closeAs p endless path)) fun l =>
    ptclose_closed (s := { s with link := l }) opened hh hw

/-- Settles O28: the walk closes the pattern or names the place at which it failed. -/
theorem patternClosed : Obligations.PatternClosed := by
  intro s tag p takes asked old
  refine ⟨fun home opened hh => ⟨fun endless path hw => ?_, fun status a hw => ?_⟩, fun closed => ?_, fun i outside => ?_,
    fun payload size => ?_⟩
  · intro calls names
    obtain ⟨entries, owner⟩ := s.store.closeAs_frame p endless path
    exact ⟨s.store.closeAs p endless path, exec_ptclose_closed takes tag opened hh hw, entries, owner,
      s.store.closeAs_pattern p endless path, fun m hm => s.store.closeAs_other hm endless path,
      s.store.closeAs_set p endless path⟩
  · exact request_of_report takes fun l => ptclose_failed (s := { s with link := l }) opened hh hw
  · refine request_of_refusal takes (owner := ptclose _) fun l => ?_
    unfold ptclose
    refine (if_neg (by simp)).trans ?_
    simp only [fieldByte_eq, List.getD_cons_zero, patternOf_byte]
    split
    · exact absurd (by assumption) closed
    · rfl
  · refine request_of_refusal takes (owner := ptclose [i]) fun l => ?_
    rw [ptclose, if_neg (by simp), fieldByte_eq, List.getD_cons_zero, patternOf_of_outside outside]
  · exact request_of_refusal takes (owner := ptclose payload) fun l => if_pos size

/-! ### PTREOPEN -/

/-- What takes a closing back changes counts alone, whatever the state (R30). -/
theorem Store.takeBack_recounted (st : Store) (p : PatternId) :
    ∃ uses refs, st.Recounted (st.takeBack p) (· - 1) uses refs := by
  unfold Store.takeBack
  split
  · exact ⟨_, _, .refl st⟩
  · split
    · exact ⟨_, _, Store.countPath_recounted _⟩
    · exact ⟨_, _, .refl st⟩

/-- In a well-formed state the counts taken back are those of the walked path (R30, R36). -/
theorem State.Wf.takenBack {u : State} (wf : u.Wf) (closed : u.store.patterns[p].state = .closed) :
    ∃ home path, u.store.patterns[p].home = some home
      ∧ u.store.closingWalk p home = .closed u.store.patterns[p].endless path
      ∧ (∀ m : PatternId, u.store.patterns[m] = { (u.store.takeBack p).patterns[m] with
          useCount := (u.store.takeBack p).patterns[m].useCount + u.store.callsOn path m })
      ∧ ∀ n : SetNo, u.store.sets[n] = { (u.store.takeBack p).sets[n] with
          refCount := (u.store.takeBack p).sets[n].refCount + u.store.namesOn path n } := by
  obtain ⟨home, path, hh, hw⟩ := wf.counted.walks p closed
  have taken := wf.counted.takenBack p
  obtain ⟨uses, refs⟩ := wf.counted.path_le p
  rw [if_pos closed] at taken
  rw [Store.pathOf_of_closed closed hh hw] at taken uses refs
  refine ⟨home, path, hh, hw, fun m => ?_, fun n => ?_⟩
  · rw [taken.patterns, iterate_pred]
    simp only [Nat.sub_add_cancel (uses m)]
  · rw [taken.sets, iterate_pred]
    simp only [Nat.sub_add_cancel (refs n)]

/-- PTREOPEN of a pattern (R30). -/
theorem ptreopen_named (p : PatternId) (s : State) : ptreopen [BitVec.ofNat 8 (p.val + 1)] s =
    if s.store.patterns[p].state ≠ .closed then refuse s .state
    else if 0 < s.store.patterns[p].useCount then refuse s .inUse
    else accept (s.setStore ((s.store.takeBack p).setPattern p
      { s.store.patterns[p] with state := .opened, endless := false })) [] := by
  unfold ptreopen
  refine (if_neg (by simp)).trans ?_
  simp only [fieldByte_eq, List.getD_cons_zero, patternOf_byte]

/-- A CLOSED pattern that is not used is reopened (R30). -/
theorem exec_ptreopen_closed (takes : s.takesFrames) (tag : Byte) (closed : s.store.patterns[p].state = .closed)
    (unused : s.store.patterns[p].useCount = 0) : exec (.ptreopen tag [BitVec.ofNat 8 (p.val + 1)]) s = .next { s with
      store := (s.store.takeBack p).setPattern p { s.store.patterns[p] with state := .opened, endless := false }
      link := s.link.answered 0x13 tag .ok [] } :=
  request_of_answer takes (owner := ptreopen _) (u := s.setStore ((s.store.takeBack p).setPattern p
      { s.store.patterns[p] with state := .opened, endless := false })) (st := .ok) (p := []) fun l =>
    (ptreopen_named p _).trans ((if_neg (not_not.mpr closed)).trans (if_neg (Nat.not_lt.mpr (Nat.le_of_eq unused))))

/-- The port takes frames after it has answered one. -/
theorem State.takesFrames_answered (takes : s.takesFrames) (st : Store) {kind tag : Byte} {status : Status}
    {bytes : List Byte} : { s with store := st, link := s.link.answered kind tag status bytes }.takesFrames :=
  ⟨takes.1, nofun⟩

/-- Settles O29: the counts are taken back along the walk of the closing. -/
theorem reopenUndoesClose : Obligations.ReopenUndoesClose := by
  intro p tag payload
  refine ⟨?_, fun u takes => ⟨fun closed unused => ?_, fun open_ => ?_, fun closed used => ?_, fun i outside => ?_,
    fun bytes size => ?_⟩⟩
  · intro s tag' home endless path takes blank hw
    have opened : s.store.patterns[p].state = .opened := by rw [blank]
    have hh : s.store.patterns[p].home = some home := by rw [blank]
    have after : (s.store.closeAs p endless path).patterns[p] = ⟨.closed, some home, endless, 0⟩ := by
      rw [s.store.closeAs_pattern, blank, Store.callsOn_self hw]
    refine ⟨_, exec_ptclose_closed takes tag' opened hh hw, ?_⟩
    refine (exec_ptreopen_closed (State.takesFrames_answered takes _) tag (by rw [after]) (by rw [after])).trans ?_
    have restored : ((s.store.closeAs p endless path).takeBack p).setPattern p
        { (s.store.closeAs p endless path).patterns[p] with state := .opened, endless := false } = s.store := by
      rw [Store.takeBack_closeAs hh hw, after]
      refine Store.ext_get rfl rfl (fun m => ?_) fun n => rfl
      rw [Store.patterns_setPattern, Store.patterns_setPattern]
      split
      · rename_i same
        rw [same, blank]
      · rfl
    exact congrArg (fun st => Host.Outcome.next { s with
      store := st
      link := (s.link.answered 0x12 tag' .ok ([flag endless] ++ bytesOf 2 path.length)).answered 0x13 tag .ok [] })
      restored
  · obtain ⟨uses, refs, taken⟩ := u.store.takeBack_recounted p
    refine ⟨_, exec_ptreopen_closed takes tag closed unused, taken.entries, taken.owner, ?_, fun wf => ?_⟩
    · rw [Store.patterns_setPattern, if_pos rfl]
    · obtain ⟨home, path, hh, hw, calls, names⟩ := wf.takenBack closed
      refine ⟨home, path, hh, hw, fun m hm => ?_, names⟩
      rw [Store.patterns_setPattern, if_neg hm]
      exact calls m
  · exact request_of_refusal takes (owner := ptreopen payload) fun l => (ptreopen_named p _).trans (if_pos open_)
  · exact request_of_refusal takes (owner := ptreopen payload) fun l =>
      (ptreopen_named p _).trans ((if_neg (not_not.mpr closed)).trans (if_pos used))
  · refine request_of_refusal takes (owner := ptreopen [i]) fun l => ?_
    rw [ptreopen, if_neg (by simp), fieldByte_eq, List.getD_cons_zero, patternOf_of_outside outside]
  · exact request_of_refusal takes (owner := ptreopen bytes) fun l => if_pos size

/-! ### PTDELETE -/

/-- The store without a pattern: its pages erased and freed, its record EMPTY (R31). -/
def Store.without (st : Store) (p : PatternId) : Store := (st.freePages p).setPattern p .blank

/-- The store after a deletion: the counts of a CLOSED pattern's walked path taken back first (R31). -/
def Store.delete (st : Store) (p : PatternId) : Store :=
  (if st.patterns[p].state = .closed then st.takeBack p else st).without p

/-- PTDELETE of a pattern (R31). -/
theorem ptdelete_named (p : PatternId) (s : State) : ptdelete [BitVec.ofNat 8 (p.val + 1)] s =
    if s.store.patterns[p].state = .empty then refuse s .state
    else if 0 < s.store.patterns[p].useCount then refuse s .inUse
    else accept (s.setStore (s.store.delete p)) [] := by
  unfold ptdelete Store.delete Store.without
  refine (if_neg (by simp)).trans ?_
  simp only [fieldByte_eq, List.getD_cons_zero, patternOf_byte]

/-- A pattern that is not used is deleted (R31). -/
theorem exec_ptdelete (takes : s.takesFrames) (tag : Byte) (there : s.store.patterns[p].state ≠ .empty)
    (unused : s.store.patterns[p].useCount = 0) : exec (.ptdelete tag [BitVec.ofNat 8 (p.val + 1)]) s = .next { s with
      store := s.store.delete p
      link := s.link.answered 0x14 tag .ok [] } :=
  request_of_answer takes (owner := ptdelete _) (u := { s with store := s.store.delete p }) (st := .ok) (p := []) fun _ =>
    (ptdelete_named p _).trans ((if_neg there).trans (if_neg (Nat.not_lt.mpr (Nat.le_of_eq unused))))

theorem Store.without_owner (st : Store) (p : PatternId) (g : PageNo) :
    (st.without p).owner[g] = if st.owner[g] = some p then none else st.owner[g] := by
  rw [← (st.freePages_page p g).1, Store.without, Store.owner_setPattern]

theorem Store.without_entries (st : Store) (p : PatternId) (g : PageNo) :
    (st.without p).entries[g] = if st.owner[g] = some p then Store.blankPage else st.entries[g] := by
  rw [← (st.freePages_page p g).2, Store.without, Store.entries_setPattern]

theorem Store.without_pattern (st : Store) (p m : PatternId) :
    (st.without p).patterns[m] = if m = p then .blank else st.patterns[m] := by
  rw [Store.without, Store.patterns_setPattern, (st.freePages_frame p).1]

theorem Store.without_sets (st : Store) (p : PatternId) : (st.without p).sets = st.sets := by
  rw [Store.without, Store.sets_setPattern, (st.freePages_frame p).2]

/-- What a deletion leaves of a page, for any store with the same pages (R31). -/
theorem Store.without_page {st' : Store} (entries : st'.entries = st.entries) (owner : st'.owner = st.owner) (p : PatternId)
    (g : PageNo) : (st.owner[g] = some p → (st'.without p).owner[g] = none
      ∧ ∀ i : EntryNo, (st'.without p).entries[g][i] = .empty)
    ∧ (st.owner[g] ≠ some p → (st'.without p).owner[g] = st.owner[g] ∧ (st'.without p).entries[g] = st.entries[g]) := by
  rw [Store.without_owner, Store.without_entries, entries, owner]
  refine ⟨fun mine => ⟨if_pos mine, fun i => ?_⟩, fun other => ⟨if_neg other, if_neg other⟩⟩
  rw [if_pos mine]
  simp [Store.blankPage]

/-- A deletion does not depend on the record of the pattern (R31). -/
theorem Store.without_setPattern (st : Store) (p : PatternId) (r : PatternRecord) :
    (st.setPattern p r).without p = st.without p := by
  have entries (g : PageNo) : ((st.setPattern p r).without p).entries[g] = (st.without p).entries[g] := by
    rw [Store.without_entries, Store.without_entries, Store.entries_setPattern, Store.owner_setPattern]
  have owner (g : PageNo) : ((st.setPattern p r).without p).owner[g] = (st.without p).owner[g] := by
    rw [Store.without_owner, Store.without_owner, Store.owner_setPattern]
  refine Store.ext_get (Vector.ext fun g hg => entries ⟨g, hg⟩) (Vector.ext fun g hg => owner ⟨g, hg⟩) (fun m => ?_)
    fun n => ?_
  · rw [Store.without_pattern, Store.without_pattern, Store.patterns_setPattern]
    split <;> rfl
  · rw [Store.without_sets, Store.without_sets, Store.sets_setPattern]

/-- The records after a deletion, as one write (R31). -/
theorem Store.without_patterns (st : Store) (p : PatternId) : (st.without p).patterns = st.patterns.set p .blank := by
  rw [Store.without, Store.setPattern, (st.freePages_frame p).1]

/-- Settles O30: the pages are freed whatever the counts, and the counts taken back are those of the closing. -/
theorem patternDeleted : Obligations.PatternDeleted := by
  intro p tag payload frees deletes
  refine ⟨?_, ?_, fun u takes => ⟨fun empty => ?_, fun there used => ?_, fun i outside => ?_, fun bytes size => ?_⟩⟩
  · intro s tag' home takes blank
    have opened : s.store.patterns[p].state = .opened := by rw [blank]
    have hh : s.store.patterns[p].home = some home := by rw [blank]
    refine ⟨s.store.without p, ?_, Store.without_page rfl rfl p, s.store.without_patterns p, s.store.without_sets p, fun endless path hw => ?_⟩
    · refine (exec_ptdelete takes tag (opened.trans_ne (by decide)) (by rw [blank])).trans ?_
      rw [Store.delete, if_neg (opened.trans_ne (by decide))]
    · have after : (s.store.closeAs p endless path).patterns[p] = ⟨.closed, some home, endless, 0⟩ := by
        rw [s.store.closeAs_pattern, blank, Store.callsOn_self hw]
      refine ⟨_, exec_ptclose_closed takes tag' opened hh hw, ?_⟩
      have deleted := exec_ptdelete (p := p) (State.takesFrames_answered takes (s.store.closeAs p endless path)
        (kind := 0x12) (tag := tag') (status := .ok) (bytes := [flag endless] ++ bytesOf 2 path.length)) tag
        (by rw [after]; nofun) (by rw [after])
      have same : (s.store.closeAs p endless path).delete p = s.store.without p := by
        rw [Store.delete, after, if_pos rfl, Store.takeBack_closeAs hh hw, Store.without_setPattern]
      refine deleted.trans ?_
      exact congrArg (fun st => Host.Outcome.next { s with
        store := st
        link := (s.link.answered 0x12 tag' .ok ([flag endless] ++ bytesOf 2 path.length)).answered 0x14 tag .ok [] }) same
  · intro u takes wf closed unused
    obtain ⟨home, path, hh, hw, calls, names⟩ := wf.takenBack closed
    obtain ⟨uses, refs, taken⟩ := u.store.takeBack_recounted p
    refine ⟨(u.store.takeBack p).without p, home, path, ?_, Store.without_page taken.entries taken.owner p, hh, hw, ?_,
      fun m hm => ?_, fun n => ?_⟩
    · refine (exec_ptdelete takes tag (closed.trans_ne (by decide)) unused).trans ?_
      rw [Store.delete, if_pos closed]
    · rw [Store.without_pattern, if_pos rfl]
      rfl
    · rw [Store.without_pattern, if_neg hm]
      exact calls m
    · rw [Store.without_sets]
      exact names n
  · exact request_of_refusal takes (owner := ptdelete payload) fun l => (ptdelete_named p _).trans (if_pos empty)
  · exact request_of_refusal takes (owner := ptdelete payload) fun l =>
      (ptdelete_named p _).trans ((if_neg there).trans (if_pos used))
  · refine request_of_refusal takes (owner := ptdelete [i]) fun l => ?_
    rw [ptdelete, if_neg (by simp), fieldByte_eq, List.getD_cons_zero, patternOf_of_outside outside]
  · exact request_of_refusal takes (owner := ptdelete bytes) fun l => if_pos size

end Sys2Proof.Machine
end

section
/-! PROOF. The configuration parameters: a parameter read through its id, what a write admits, stores and brings about,
and the reports of CFREAD (R165 to R169). -/

namespace Sys2Proof.Machine

variable {s : State}

/-! ### A parameter and its id -/

/-- The id of a parameter (section 9.7). -/
def ParamId.number : ParamId → Nat
  | .offB => 1
  | .offC => 2
  | .offK => 3
  | .skew b => 4 + (barNumber b).toNat
  | .missLimit => 7
  | .breakLimit => 8
  | .xMin b => 9 + (barNumber b).toNat
  | .xMax b => 12 + (barNumber b).toNat
  | .stepMax b => 15 + (barNumber b).toNat
  | .threadFactor b => 18 + (barNumber b).toNat
  | .slMin => 21
  | .slMax => 22
  | .probation => 23
  | .retryGap => 24
  | .retries => 25
  | .threadReserve => 26
  | .tailTie => 27
  | .cutWindow => 28
  | .starveDist => 29
  | .roomMark => 30
  | .linkCheck => 31
  | .linkPolicy => 32

theorem ParamId.number_range (pid : ParamId) : 1 ≤ pid.number ∧ pid.number ≤ 32 := by
  cases pid
  case skew b | xMin b | xMax b | stepMax b | threadFactor b => cases b <;> decide
  all_goals decide

theorem paramOf_of_number (pid : ParamId) : paramOf? pid.number = some pid := by
  cases pid
  case skew b | xMin b | xMax b | stepMax b | threadFactor b => cases b <;> rfl
  all_goals rfl

theorem ParamId.eq_of_number {pid q : ParamId} (h : pid.number = q.number) : pid = q :=
  Option.some.inj ((paramOf_of_number pid).symm.trans ((congrArg paramOf? h).trans (paramOf_of_number q)))

theorem ParamId.all_number : ∀ k : Fin 32, (ParamId.all[k.val]?).map ParamId.number = some (k.val + 1) := by decide

/-- Every id 1..32 is that of a parameter. -/
theorem ParamId.exists_number {id : Nat} (one : 1 ≤ id) (most : id ≤ 32) : ∃ pid : ParamId, pid.number = id := by
  obtain ⟨pid, _, number⟩ := Option.map_eq_some_iff.mp (ParamId.all_number ⟨id - 1, by omega⟩)
  exact ⟨pid, number.trans (Nat.sub_add_cancel one)⟩

theorem paramOf_eq_none {id : Nat} (h : id = 0 ∨ 32 < id) : paramOf? id = none := by
  unfold paramOf?
  split
  · rfl
  · exact List.getElem?_eq_none (by simp [ParamId.all]; omega)

theorem ParamId.geometry_iff (pid : ParamId) : pid.geometry = true ↔ pid.number ≤ 8 := by
  cases pid
  case skew b | xMin b | xMax b | stepMax b | threadFactor b => cases b <;> decide
  all_goals decide

/-- The values in the order of the ids are those of the parameters one by one (R169). -/
theorem Params.values_eq (p : Params) : p.values = ParamId.all.map p.value := rfl

theorem Params.value_eq (p : Params) (pid : ParamId) : p.value pid = p.values.getD (pid.number - 1) 0 := by
  cases pid
  case skew b | xMin b | xMax b | stepMax b | threadFactor b => cases b <;> rfl
  all_goals rfl

/-- What CFWRITE admits is what the table of section 9.7 and the cross-checks allow. -/
theorem State.valueAllowed_iff (s : State) (pid : ParamId) (v : Int) : s.valueAllowed pid v = true
    ↔ s.params.Admits (fun b => (s.bars.get b).place.x) pid.number v := by
  cases pid
  case offB | offC | offK | slMin | slMax =>
    simp only [State.valueAllowed, Params.Admits, ParamId.number, Bool.and_eq_true, within_iff, decide_eq_true_eq, and_assoc]
  case skew b | stepMax b | threadFactor b => cases b <;> exact within_iff
  case xMin b | xMax b =>
    cases b <;> simp only [State.valueAllowed, Params.Admits, ParamId.number, Bool.and_eq_true, within_iff,
      decide_eq_true_eq, and_assoc, barNumber] <;> rfl
  all_goals exact within_iff

/-- A value admitted is stored in its place among the 32 values, the others kept (R166). -/
theorem Params.values_store {p : Params} {x : Bar → Int} {pid : ParamId} {v : Int} (h : p.Admits x pid.number v) :
    (p.store pid v).values = p.values.set (pid.number - 1) v := by
  have of_nonneg (low : 0 ≤ v) (stored : (p.store pid v).values = p.values.set (pid.number - 1) (v.toNat : Int)) :
      (p.store pid v).values = p.values.set (pid.number - 1) v :=
    stored.trans (congrArg (p.values.set _) (Int.toNat_of_nonneg low))
  cases pid
  case linkCheck | linkPolicy =>
    have bit : (0 : Int) ≤ v ∧ v ≤ 1 := h
    obtain rfl | rfl : v = 0 ∨ v = 1 := by omega
    · rfl
    · rfl
  case xMin b | xMax b => cases b <;> rfl
  case skew b | stepMax b | threadFactor b =>
    refine of_nonneg (by cases b <;> have := h.1 <;> omega) ?_
    cases b <;> rfl
  all_goals exact of_nonneg (by have := h.1; omega) rfl

/-- The value stored is the value read (R166). -/
theorem Params.value_store {p : Params} {x : Bar → Int} {pid : ParamId} {v : Int} (h : p.Admits x pid.number v) :
    (p.store pid v).value pid = v := by
  have place : pid.number - 1 < p.values.length := by
    have := pid.number_range
    show pid.number - 1 < 32
    omega
  rw [Params.value_eq, Params.values_store h]
  simp [place]

theorem State.atRest_iff (s : State) : s.atRest = true ↔ s.Resting := by
  have bars (P : Bar → Prop) : (∀ b, P b) ↔ P .A ∧ P .B ∧ P .C :=
    ⟨fun h => ⟨h .A, h .B, h .C⟩, fun ⟨a, b, c⟩ bar => by cases bar <;> assumption⟩
  simp [State.atRest, State.Resting, bars, Control.atRest, PerBar.get, and_assoc]

/-! ### The effect of a write -/

/-- A write changes the parameter, the starvation state and the needle records alone (R166). -/
theorem State.writeParam_eq (s : State) (pid : ParamId) (v : Int) : s.writeParam pid v = { s with
    params := (s.writeParam pid v).params
    table := (s.writeParam pid v).table
    needles := (s.writeParam pid v).needles } := by
  cases pid <;> rfl

theorem State.writeParam_params (s : State) (pid : ParamId) (v : Int) :
    (s.writeParam pid v).params = s.params.store pid v := by
  cases pid <;> rfl

/-- A write of STARVE_DIST re-evaluates the starvation state (R55, R56). -/
theorem State.writeParam_starving (s : State) (v : Int) : (s.writeParam .starveDist v).table.starving = true
    ↔ Starves { s.params with starveDist := v.toNat } s.w s.table.records :=
  starvationCondition_iff (s := { s with params := s.params.store .starveDist v })

theorem State.writeParam_link (s : State) (l : LinkPort) (pid : ParamId) (v : Int) :
    ({ s with link := l }).writeParam pid v = { s.writeParam pid v with link := l } := by
  cases pid <;> rfl

/-- Only a write of STARVE_DIST touches the table (R166). -/
theorem State.writeParam_table (s : State) {pid : ParamId} (v : Int) (h : pid ≠ .starveDist) :
    (s.writeParam pid v).table = s.table := by
  cases pid
  case starveDist => exact absurd rfl h
  all_goals rfl

/-- A write of MISS_LIMIT or BREAK_LIMIT zeroes the miss and break counts of every needle (R132). -/
theorem State.writeParam_zeroes (s : State) {pid : ParamId} (h : pid = .missLimit ∨ pid = .breakLimit) (v : Int) (b : Bar)
    (n : NeedleNo) : (s.writeParam pid v).needle b n = { s.needle b n with misses := 0, breaks := 0 } := by
  obtain rfl | rfl := h
  all_goals
    show (Bar.all.foldl (fun (t : State) b => t.mapNeedles b NeedleRecord.zeroCounts) _).needle b n = _
    cases b <;> simp [Bar.all, State.needle_mapNeedles] <;> rfl

theorem State.writeParam_needles (s : State) {pid : ParamId} (v : Int) (miss : pid ≠ .missLimit) (break_ : pid ≠ .breakLimit) :
    (s.writeParam pid v).needles = s.needles := by
  cases pid
  case missLimit => exact absurd rfl miss
  case breakLimit => exact absurd rfl break_
  all_goals rfl

/-! ### CFWRITE -/

theorem valueBytes_eq (v : BitVec 32) : valueBytes v = bytesOf 4 v.toNat := by
  simp [valueBytes, bytesOf, byte, BitVec.extractLsb', Nat.shiftRight_eq_div_pow]

theorem fieldSigned4_value (id : Byte) (v : BitVec 32) : fieldSigned4 (id :: bytesOf 4 v.toNat) 1 = v.toInt := by
  have read := field_bytesOf_middle (pre := [id]) (k := 4) rfl (by have := v.isLt; omega : v.toNat < 256 ^ 4) []
  rw [List.append_nil] at read
  exact (congrArg (fun n => (BitVec.ofNat 32 n).toInt) read).trans (by rw [BitVec.ofNat_toNat, BitVec.setWidth_eq])

theorem signed4_toInt (v : BitVec 32) : signed4 v.toInt = bytesOf 4 v.toNat := by rw [signed4, BitVec.ofInt_toInt]

/-- The payload of a write of one parameter (R166). -/
def ParamId.written (pid : ParamId) (v : BitVec 32) : List Byte := BitVec.ofNat 8 pid.number :: bytesOf 4 v.toNat

/-- A write of a parameter, in the order of its checks (R166, R167, R168). -/
theorem cfwrite_written (pid : ParamId) (v : BitVec 32) (s : State) : cfwrite (pid.written v) s =
    if pid.geometry && !s.atRest then refuse s .busy
    else if !s.valueAllowed pid v.toInt then refuse s .range
    else accept (s.writeParam pid v.toInt)
      (BitVec.ofNat 8 pid.number :: signed4 ((s.writeParam pid v.toInt).params.value pid)) := by
  have range := pid.number_range
  have number : (BitVec.ofNat 8 pid.number).toNat = pid.number := toNat_ofNat_of_lt (by omega)
  unfold cfwrite ParamId.written
  simp only [fieldByte_eq, List.getD_cons_zero, number, paramOf_of_number, fieldSigned4_value]
  exact (if_neg (by simp [bytesOf])).trans rfl

theorem exec_cfwrite_busy (takes : s.takesFrames) {tag : Byte} {pid : ParamId} {v : BitVec 32}
    (geometry : pid.number ≤ 8) (moving : ¬ s.Resting) :
    exec (.cfwrite tag (pid.written v)) s = .next (s.answered 0x50 tag .busy []) := by
  refine request_of_refusal takes fun l => (cfwrite_written pid v _).trans (if_pos ?_)
  have moves : ¬ s.atRest = true := fun h => moving (s.atRest_iff.mp h)
  rw [pid.geometry_iff.mpr geometry]
  exact congrArg (! ·) (Bool.eq_false_iff.mpr moves)

/-- The write passes the check of rest (R167). -/
theorem not_geometry_or_resting {pid : ParamId} (free : 8 < pid.number ∨ s.Resting) :
    ¬ (pid.geometry && !s.atRest) = true := by
  rw [Bool.and_eq_true, Bool.not_eq_true', pid.geometry_iff]
  rintro ⟨geometry, moves⟩
  obtain above | resting := free
  · omega
  · simp [s.atRest_iff.mpr resting] at moves

theorem exec_cfwrite_range (takes : s.takesFrames) {tag : Byte} {pid : ParamId} {v : BitVec 32}
    (free : 8 < pid.number ∨ s.Resting)
    (outside : ¬ s.params.Admits (fun b => (s.bars.get b).place.x) pid.number v.toInt) :
    exec (.cfwrite tag (pid.written v)) s = .next (s.answered 0x50 tag .range []) := by
  have disallowed : (!s.valueAllowed pid v.toInt) = true := by
    rw [Bool.not_eq_true', Bool.eq_false_iff]
    exact fun h => outside ((s.valueAllowed_iff pid _).mp h)
  exact request_of_refusal takes fun l => (cfwrite_written pid v _).trans <|
    (if_neg (not_geometry_or_resting (s := s) free)).trans (if_pos disallowed)

/-- A write admitted stores the value, with its effect, and answers the id and the value (R166). -/
theorem exec_cfwrite_admitted (takes : s.takesFrames) {tag : Byte} {pid : ParamId} {v : BitVec 32}
    (free : 8 < pid.number ∨ s.Resting)
    (admitted : s.params.Admits (fun b => (s.bars.get b).place.x) pid.number v.toInt) :
    exec (.cfwrite tag (pid.written v)) s
      = .next { s.writeParam pid v.toInt with link := s.link.answered 0x50 tag .ok (pid.written v) } := by
  have allowed : ¬ (!s.valueAllowed pid v.toInt) = true := by
    rw [(s.valueAllowed_iff pid _).mpr admitted]
    exact Bool.false_ne_true
  have stored : (s.writeParam pid v.toInt).params.value pid = v.toInt := by
    rw [State.writeParam_params]
    exact Params.value_store admitted
  refine request_of_answer takes (owner := cfwrite (pid.written v)) (u := s.writeParam pid v.toInt) (st := .ok)
    (p := pid.written v) fun l => (cfwrite_written pid v _).trans <|
      (if_neg (not_geometry_or_resting (s := s) free)).trans <| (if_neg allowed).trans ?_
  rw [State.writeParam_link]
  show accept _ (_ :: signed4 ((s.writeParam pid v.toInt).params.value pid)) = _
  rw [stored, signed4_toInt]
  rfl

/-- Settles O48: through the parameter an id names. -/
theorem parameterWritten : Obligations.ParameterWritten := by
  unfold Obligations.ParameterWritten
  intro s tag takes
  refine ⟨fun id v one most => ?_, fun id value outside length => ?_, fun payload length => ?_⟩
  · obtain ⟨pid, rfl⟩ := ParamId.exists_number one most
    intro asked admitted
    refine ⟨fun geometry moving => exec_cfwrite_busy takes geometry moving,
      fun free outside => exec_cfwrite_range takes free outside, fun free admits => ?_⟩
    have written := s.writeParam_eq pid v.toInt
    refine ⟨_, exec_cfwrite_admitted takes free admits, ?_, ?_, ?_, ?_, ?_, ?_, ?_⟩
    · exact congrArg (fun t : State => { t with link := s.link.answered 0x50 tag .ok (pid.written v) })
        written
    · exact (congrArg Params.values (s.writeParam_params pid _)).trans (Params.values_store admits)
    · exact (({ s with params := s.params.store pid v.toInt }).afterWrite_frame pid).1
    · exact fun other => s.writeParam_table _ fun same => other (same ▸ rfl)
    · intro starve
      obtain rfl := ParamId.eq_of_number (q := .starveDist) starve
      exact s.writeParam_starving _
    · exact fun miss break_ => s.writeParam_needles _ (fun same => miss (same ▸ rfl)) fun same => break_ (same ▸ rfl)
    · exact fun limit b n => s.writeParam_zeroes (limit.imp (ParamId.eq_of_number (q := .missLimit) ·)
        (ParamId.eq_of_number (q := .breakLimit) ·)) _ b n
  · have none_ := paramOf_eq_none (id := id.toNat) (outside.imp_left fun h => by rw [h]; rfl)
    refine request_of_refusal takes fun l => ?_
    unfold cfwrite
    simp only [fieldByte_eq, List.getD_cons_zero, none_]
    exact if_neg (by simp [length])
  · exact request_of_refusal takes fun l => if_pos length

/-- A write admitted, with the parameters it stores written out (R166). -/
theorem exec_cfwrite_stores (takes : s.takesFrames) {tag : Byte} {pid : ParamId} {v : BitVec 32} {q : Params}
    (free : 8 < pid.number ∨ s.Resting)
    (admitted : s.params.Admits (fun b => (s.bars.get b).place.x) pid.number v.toInt)
    (stores : s.params.store pid v.toInt = q) : exec (.cfwrite tag (pid.written v)) s = .next { s with
      params := q
      table := (s.writeParam pid v.toInt).table
      needles := (s.writeParam pid v.toInt).needles
      link := s.link.answered 0x50 tag .ok (pid.written v) } := by
  rw [exec_cfwrite_admitted takes free admitted, ← stores, ← State.writeParam_params]
  exact congrArg (fun t : State => (Host.Outcome.next { t with link := s.link.answered 0x50 tag .ok (pid.written v) } : Result))
    (s.writeParam_eq pid v.toInt)

theorem toNat_toInt_of_nonneg {v : BitVec 32} (h : 0 ≤ v.toInt) : v.toInt.toNat = v.toNat := by
  rw [BitVec.toInt_eq_toNat_of_msb (by rwa [BitVec.msb_eq_toInt, decide_eq_false_iff_not, not_lt]), Int.toNat_natCast]

/-- Settles O49: as CFWRITE of the row's id. -/
theorem ownRowsWritten : Obligations.OwnRowsWritten := by
  unfold Obligations.OwnRowsWritten
  intro s tag v takes answered refused zeroed
  have own (pid : ParamId) : (BitVec.ofNat 8 pid.number) :: valueBytes v = pid.written v := by
    rw [valueBytes_eq]
    rfl
  have starve : exec (.cfwriteStarveDist tag v) s = exec (.cfwrite tag (ParamId.starveDist.written v)) s :=
    congrArg (fun p => request 0x50 tag (cfwrite p) s) (own .starveDist)
  have room : exec (.cfwriteRoomMark tag v) s = exec (.cfwrite tag (ParamId.roomMark.written v)) s :=
    congrArg (fun p => request 0x50 tag (cfwrite p) s) (own .roomMark)
  have miss : exec (.cfwriteMissLimit tag v) s = exec (.cfwrite tag (ParamId.missLimit.written v)) s :=
    congrArg (fun p => request 0x50 tag (cfwrite p) s) (own .missLimit)
  have break_ : exec (.cfwriteBreakLimit tag v) s = exec (.cfwrite tag (ParamId.breakLimit.written v)) s :=
    congrArg (fun p => request 0x50 tag (cfwrite p) s) (own .breakLimit)
  rw [starve, room, miss, break_]
  have any (pid : ParamId) (h : 8 < pid.number) : 8 < pid.number ∨ s.Resting := .inl h
  have nat (low : 0 ≤ v.toInt) : v.toInt.toNat = v.toNat := toNat_toInt_of_nonneg low
  refine ⟨fun low high => ⟨_, nat low ▸ s.writeParam_starving v.toInt, ?_⟩, fun outside => ?_, fun low high => ⟨_, ?_, rfl, ?_⟩,
    fun outside => ?_, fun moving => ⟨?_, ?_⟩, fun resting outside => ⟨?_, ?_⟩,
    fun resting low high => ⟨_, s.writeParam_zeroes (.inl rfl) v.toInt, ?_, ?_⟩⟩
  · exact exec_cfwrite_stores takes (any .starveDist (by decide)) ⟨low, high⟩ (by rw [← nat low]; rfl)
  · exact exec_cfwrite_range takes (any .starveDist (by decide)) fun ⟨low, high⟩ => by omega
  · exact exec_cfwrite_stores takes (any .roomMark (by decide)) ⟨low, high⟩ (by rw [← nat low]; rfl)
  · exact decide_eq_true_iff
  · exact exec_cfwrite_range takes (any .roomMark (by decide)) fun ⟨low, high⟩ => by omega
  · exact exec_cfwrite_busy takes (by decide) moving
  · exact exec_cfwrite_busy takes (by decide) moving
  · exact exec_cfwrite_range takes (.inr resting) fun ⟨low, high⟩ => by omega
  · exact exec_cfwrite_range takes (.inr resting) fun ⟨low, high⟩ => by omega
  · exact exec_cfwrite_stores takes (.inr resting) ⟨low, high⟩ (by rw [← nat (by omega)]; rfl)
  · exact exec_cfwrite_stores takes (.inr resting) ⟨low, high⟩ (by rw [← nat (by omega)]; rfl)

/-! ### CFREAD -/

/-- Settles O50. -/
theorem parametersReported : Obligations.ParametersReported := by
  unfold Obligations.ParametersReported
  intro s tag takes
  refine ⟨fun id one most => ?_, ⟨32 :: ParamId.all.flatMap fun id => signed4 (s.params.value id),
    request_of_report takes fun l => rfl, ?_, ?_⟩, fun x above => ?_, fun p length => ?_⟩
  · obtain ⟨pid, rfl⟩ := ParamId.exists_number one most
    have number : (BitVec.ofNat 8 pid.number).toNat = pid.number := toNat_ofNat_of_lt (by omega)
    refine request_of_report takes fun l => ?_
    unfold cfread
    simp only [fieldByte_eq, List.getD_cons_zero, number, paramOf_of_number]
    refine (if_neg (by simp)).trans ((if_neg (by omega)).trans ?_)
    rw [Params.value_eq]
    rfl
  · rfl
  · rw [Params.values_eq, List.flatMap_map]
    rfl
  · have none_ := paramOf_eq_none (id := x.toNat) (.inr above)
    refine request_of_refusal takes fun l => ?_
    unfold cfread
    simp only [fieldByte_eq, List.getD_cons_zero, none_]
    exact (if_neg (by simp)).trans (if_neg (by omega))
  · exact request_of_refusal takes fun l => if_pos length

end Sys2Proof.Machine
end

section
/-! PROOF. The attention unit: what its flags, levels and lines say, and what acknowledging and masking do (R147 to
R154). -/

namespace Sys2Proof.Machine

variable {s : State}

/-! ### The numbers of the sources -/

theorem Sticky.mem_all (e : Sticky) : e ∈ Sticky.all := by
  cases e <;> decide

theorem Sticky.number_inj {e d : Sticky} : e.number = d.number ↔ e = d := by
  refine ⟨fun h => Sticky.index_inj.mp (Fin.ext ?_), fun h => h ▸ rfl⟩
  unfold Sticky.number at h
  grind

theorem Sticky.number_range (e : Sticky) : e.number < 21 ∧ e.number ≠ 3 ∧ e.number ≠ 4 ∧ e.number ≠ 5 := by
  cases e <;> decide

/-- A source is sticky, or FREEZE, DRIVE_FAULT or ROOM (section 8.1). -/
theorem source_cases : ∀ i < 21, i = 3 ∨ i = 4 ∨ i = 5 ∨ ∃ e ∈ Sticky.all, e.number = i := by decide

/-! ### The flags and the levels -/

theorem getLsbD_twoPow_source {i k : Nat} (h : i < 21) : (BitVec.twoPow 21 k).getLsbD i = true ↔ k = i := by
  rw [BitVec.getLsbD_twoPow, Bool.and_eq_true, decide_eq_true_eq, decide_eq_true_eq]
  omega

theorem getLsbD_foldl_sources (c : Sticky → Bool) (l : List Sticky) (f : SourceSet) {i : Nat} (h : i < 21) :
    (l.foldl (fun f e => if c e then f ||| BitVec.twoPow 21 e.number else f) f).getLsbD i = true
      ↔ f.getLsbD i = true ∨ ∃ e ∈ l, c e = true ∧ e.number = i := by
  induction l generalizing f with
  | nil => simp
  | cons e l ih =>
    rw [List.foldl_cons, ih, List.exists_mem_cons_iff]
    cases hc : c e
    · simp
    · rw [if_pos rfl, BitVec.getLsbD_or, Bool.or_eq_true, getLsbD_twoPow_source h, or_assoc]
      simp only [true_and]

theorem State.getLsbD_stickyFlags {i : Nat} (h : i < 21) :
    s.stickyFlags.getLsbD i = true ↔ ∃ e : Sticky, 0 < (s.event e).count ∧ e.number = i := by
  rw [State.stickyFlags, getLsbD_foldl_sources _ _ _ h]
  simp [State.flagSet, Sticky.mem_all]

/-- The flag of a sticky source is in the place of its number (R153). -/
theorem State.getLsbD_stickyFlags_number (e : Sticky) :
    s.stickyFlags.getLsbD e.number = true ↔ 0 < (s.event e).count := by
  rw [State.getLsbD_stickyFlags e.number_range.1]
  exact ⟨fun ⟨d, set_, same⟩ => Sticky.number_inj.mp same ▸ set_, fun set_ => ⟨e, set_, rfl⟩⟩

theorem State.getLsbD_stickyFlags_level {i : Nat} (h : i = 3 ∨ i = 4 ∨ i = 5) : s.stickyFlags.getLsbD i = false := by
  rw [Bool.eq_false_iff]
  intro set_
  obtain ⟨e, _, rfl⟩ := (State.getLsbD_stickyFlags (by omega)).mp set_
  have := e.number_range
  omega

theorem State.anyDriveFault_iff : s.anyDriveFault = true ↔ ∃ b, s.inputs.driveFault.get b = true := by
  rw [State.anyDriveFault, Bool.or_eq_true, Bool.or_eq_true]
  constructor
  · rintro ((a | b) | c)
    exacts [⟨.A, a⟩, ⟨.B, b⟩, ⟨.C, c⟩]
  · rintro ⟨b, hb⟩
    cases b
    exacts [.inl (.inl hb), .inl (.inr hb), .inr hb]

theorem State.getLsbD_levelFlags {i : Nat} (h : i < 21) : s.levelFlags.getLsbD i = true
    ↔ i = 3 ∧ s.inputs.freeze = true ∨ i = 4 ∧ (∃ b, s.inputs.driveFault.get b = true)
      ∨ i = 5 ∧ s.table.records.length ≤ s.params.roomMark := by
  have bit (c : Bool) (k : Nat) : (if c then BitVec.twoPow 21 k else (0 : SourceSet)).getLsbD i = true ↔ i = k ∧ c = true := by
    cases c <;> simp [h, eq_comm]
  have room : s.room = true ↔ s.table.records.length ≤ s.params.roomMark := decide_eq_true_iff
  rw [State.levelFlags, BitVec.getLsbD_or, BitVec.getLsbD_or, Bool.or_eq_true, Bool.or_eq_true, bit, bit, bit,
    State.anyDriveFault_iff, room, or_assoc]

/-! ### The attention lines -/

theorem and_ne_zero_iff {n : Nat} (m f : BitVec n) :
    (m &&& f != 0) = true ↔ ∃ i < n, m.getLsbD i = true ∧ f.getLsbD i = true := by
  rw [bne_iff_ne, ne_eq, ← not_iff_not, not_not]
  constructor
  · rintro zero ⟨i, _, hm, hf⟩
    have := congrArg (·.getLsbD i) zero
    simp [hm, hf] at this
  · intro none_
    refine BitVec.eq_of_getLsbD_eq fun i hi => ?_
    have := fun h => none_ ⟨i, hi, h⟩
    grind

/-- A line is driven high exactly while a source of its mask is set (R150). -/
theorem State.attentionLine_iff (operates : s.inputs.operates = true) (n : Fin 4) :
    s.attentionLine n = true ↔ s.Asserts n := by
  rw [State.attentionLine, operates, Bool.true_and, and_ne_zero_iff, State.Asserts]
  constructor
  · rintro ⟨i, hi, mask, source⟩
    rw [BitVec.getLsbD_or, Bool.or_eq_true, State.getLsbD_stickyFlags hi, State.getLsbD_levelFlags hi] at source
    obtain ⟨e, set_, rfl⟩ | ⟨rfl, level⟩ | ⟨rfl, level⟩ | ⟨rfl, level⟩ := source
    exacts [.inl ⟨e, mask, set_⟩, .inr (.inl ⟨mask, level⟩), .inr (.inr (.inl ⟨mask, level⟩)),
      .inr (.inr (.inr ⟨mask, level⟩))]
  · have level {i : Nat} (hi : i < 21) (mask : s.masks[n].getLsbD i = true) (set_ : s.levelFlags.getLsbD i = true) :
        ∃ i < 21, s.masks[n].getLsbD i = true ∧ (s.stickyFlags ||| s.levelFlags).getLsbD i = true :=
      ⟨i, hi, mask, by rw [BitVec.getLsbD_or, set_, Bool.or_true]⟩
    rintro (⟨e, mask, set_⟩ | ⟨mask, high⟩ | ⟨mask, high⟩ | ⟨mask, high⟩)
    · refine ⟨e.number, e.number_range.1, mask, ?_⟩
      rw [BitVec.getLsbD_or, State.getLsbD_stickyFlags_number e |>.mpr set_, Bool.true_or]
    · exact level (by decide) mask ((State.getLsbD_levelFlags (by decide)).mpr (.inl ⟨rfl, high⟩))
    · exact level (by decide) mask ((State.getLsbD_levelFlags (by decide)).mpr (.inr (.inl ⟨rfl, high⟩)))
    · exact level (by decide) mask ((State.getLsbD_levelFlags (by decide)).mpr (.inr (.inr ⟨rfl, high⟩)))

/-- The byte of four lines, ATTNn counted as 2^n. -/
theorem lineByte_bits : ∀ a b c d : Bool,
    let lines : Byte := (if a then 1 else 0) ||| (if b then 2 else 0) ||| (if c then 4 else 0) ||| (if d then 8 else 0)
    lines.toNat < 16 ∧ lines.getLsbD 0 = a ∧ lines.getLsbD 1 = b ∧ lines.getLsbD 2 = c ∧ lines.getLsbD 3 = d := by
  decide

theorem State.linesAre (operates : s.inputs.operates = true) : s.LinesAre s.lineStates := by
  obtain ⟨small, zero, one, two, three⟩ :=
    lineByte_bits (s.attentionLine 0) (s.attentionLine 1) (s.attentionLine 2) (s.attentionLine 3)
  have bit : ∀ n : Fin 4, s.lineStates.getLsbD n.val = s.attentionLine n := by
    intro n
    obtain rfl | rfl | rfl | rfl : n = 0 ∨ n = 1 ∨ n = 2 ∨ n = 3 := by omega
    exacts [zero, one, two, three]
  exact ⟨small, fun n => by rw [bit, State.attentionLine_iff operates]⟩

/-! ### Acknowledging -/

theorem event_foldl_acknowledge (named : SourceSet) (e : Sticky) (l : List Sticky) (s : State) :
    (l.foldl (fun t d => if named.getLsbD d.number then t.setEvent d ⟨0, (t.event d).detail⟩ else t) s).event e
      = if e ∈ l ∧ named.getLsbD e.number = true then ⟨0, (s.event e).detail⟩ else s.event e := by
  induction l generalizing s with
  | nil => simp
  | cons d l ih =>
    rw [List.foldl_cons, ih]
    by_cases hd : named.getLsbD d.number = true
    · rw [if_pos hd, State.event_setEvent]
      grind
    · rw [if_neg hd]
      grind

/-- Acknowledging clears the counts of the sources named and keeps their details (R154). -/
theorem State.acknowledge_events (named : SourceSet) (e : Sticky) : (s.acknowledge named).event e
    = if named.getLsbD e.number then ⟨0, (s.event e).detail⟩ else s.event e := by
  rw [State.acknowledge, event_foldl_acknowledge]
  simp [Sticky.mem_all]

theorem foldl_acknowledge_withLink (named : SourceSet) (l : List Sticky) (s : State) (port : LinkPort) :
    l.foldl (fun t d => if named.getLsbD d.number then t.setEvent d ⟨0, (t.event d).detail⟩ else t) { s with link := port }
      = { l.foldl (fun t d => if named.getLsbD d.number then t.setEvent d ⟨0, (t.event d).detail⟩ else t) s with
          link := port } := by
  induction l generalizing s with
  | nil => rfl
  | cons d l ih =>
    rw [List.foldl_cons, List.foldl_cons]
    by_cases hd : named.getLsbD d.number = true
    · rw [if_pos hd, if_pos hd]
      exact ih (s.setEvent d ⟨0, (s.event d).detail⟩)
    · rw [if_neg hd, if_neg hd]
      exact ih s

theorem State.acknowledge_withLink (named : SourceSet) (s : State) (port : LinkPort) :
    ({ s with link := port } : State).acknowledge named = { s.acknowledge named with link := port } :=
  foldl_acknowledge_withLink named Sticky.all s port

/-! ### The requests -/

theorem field_bytesOf_three {v : Nat} (h : v < 16777216) : field (bytesOf 3 v) 0 3 = v := by
  have read := field_bytesOf_middle (pre := []) (k := 3) rfl (by omega : v < 256 ^ 3) []
  rwa [List.append_nil] at read

theorem field_byte_bytesOf_three (x : Byte) {v : Nat} (h : v < 16777216) : field ([x] ++ bytesOf 3 v) 1 3 = v := by
  have read := field_bytesOf_middle (pre := [x]) (k := 3) rfl (by omega : v < 256 ^ 3) []
  rwa [List.append_nil] at read

/-- EVACK of a set of sources (R154). -/
theorem evack_named (named : SourceSet) (s : State) : evack (bytesOf 3 named.toNat) s = accept (s.acknowledge named)
    (bytesOf 3 s.stickyFlags.toNat
      ++ Sticky.all.map (fun e => if named.getLsbD e.number then BitVec.ofNat 8 (s.event e).count else 0)) := by
  have small := named.isLt
  unfold evack
  rw [field_bytesOf_three (by omega)]
  refine (if_neg (by simp [bytesOf])).trans ((if_neg (by omega)).trans ?_)
  rw [BitVec.ofNat_toNat, BitVec.setWidth_eq]
  rfl

/-- A mask request of a set of sources (R152). -/
theorem maskRequest_named (f : SourceSet → SourceSet → SourceSet) (n : Fin 4) (set : SourceSet) (s : State) :
    maskRequest f ([BitVec.ofNat 8 n.val] ++ bytesOf 3 set.toNat) s
      = accept { s with masks := s.masks.set n (f s.masks[n] set) }
        (bytesOf 3 (f s.masks[n] set).toNat
          ++ [({ s with masks := s.masks.set n (f s.masks[n] set) } : State).lineStates]) := by
  have small := set.isLt
  have number : fieldByte ([BitVec.ofNat 8 n.val] ++ bytesOf 3 set.toNat) 0 = n.val := by
    rw [fieldByte_eq]
    exact toNat_ofNat_of_lt (by omega)
  unfold maskRequest
  rw [field_byte_bytesOf_three _ (by omega)]
  refine (if_neg (by simp [bytesOf])).trans ((dif_pos (number.trans_lt n.isLt)).trans ((if_neg (by omega)).trans ?_))
  rw [BitVec.ofNat_toNat, BitVec.setWidth_eq]
  simp only [number, Fin.eta]
  simp [sourceBytes]

theorem maskRequest_outside (f : SourceSet → SourceSet → SourceSet) (x : Byte) {v : Nat} (fits : v < 16777216)
    (outside : 4 ≤ x.toNat ∨ 2097152 ≤ v) (s : State) : maskRequest f ([x] ++ bytesOf 3 v) s = refuse s .range := by
  have number : fieldByte ([x] ++ bytesOf 3 v) 0 = x.toNat := fieldByte_eq _ _
  unfold maskRequest
  rw [field_byte_bytesOf_three _ fits]
  refine (if_neg (by simp [bytesOf])).trans ?_
  by_cases named : x.toNat < 4
  · exact (dif_pos (number.trans_lt named)).trans (if_pos (by omega))
  · exact dif_neg fun h => named (number.symm.trans_lt h)

/-- Settles O46. -/
theorem eventRequestsAct : Obligations.EventRequestsAct := by
  unfold Obligations.EventRequestsAct
  intro s tag takes
  refine ⟨fun named => ?_, fun n set => ?_, fun x v fits outside => ?_, fun v large fits => ?_, fun p => ?_⟩
  · refine ⟨s.stickyFlags, (s.acknowledge named).events, State.getLsbD_stickyFlags_number,
      State.getLsbD_stickyFlags_level (by omega), State.getLsbD_stickyFlags_level (by omega),
      State.getLsbD_stickyFlags_level (by omega), State.acknowledge_events named, ?_⟩
    obtain ⟨events, framed⟩ := acknowledge_frame named Sticky.all s
    have frame : s.acknowledge named = { s with events := (s.acknowledge named).events } := by
      rw [State.acknowledge, framed]
    have acted := request_of_answer takes (kind := 0x53) (tag := tag) (owner := evack (bytesOf 3 named.toNat))
      (u := s.acknowledge named) (st := .ok) (p := bytesOf 3 s.stickyFlags.toNat
        ++ Sticky.all.map (fun e => if named.getLsbD e.number then BitVec.ofNat 8 (s.event e).count else 0)) fun l => by
          rw [evack_named, State.acknowledge_withLink]
          rfl
    rw [frame] at acted
    exact acted
  · intro payload masked answered
    refine ⟨⟨_, State.linesAre takes.1, ?_⟩, ⟨_, State.linesAre takes.1, ?_⟩⟩
    · exact request_of_answer takes fun l => maskRequest_named _ n set _
    · exact request_of_answer takes fun l => maskRequest_named _ n set _
  · exact ⟨request_of_refusal takes fun l => maskRequest_outside _ x fits outside _,
      request_of_refusal takes fun l => maskRequest_outside _ x fits outside _⟩
  · refine request_of_refusal takes fun l => ?_
    unfold evack
    rw [field_bytesOf_three fits]
    exact (if_neg (by simp [bytesOf])).trans (if_pos large)
  · exact ⟨fun length => request_of_refusal takes fun l => if_pos length, fun length =>
      ⟨request_of_refusal takes fun l => if_pos length, request_of_refusal takes fun l => if_pos length⟩⟩

/-! ### EVREAD -/

/-- The detail of a source as EVREAD reports it, after the byte that tells whether there is one (R148, R153). -/
def detailForm : Option Detail → List Byte
  | none => [0, 0, 0]
  | some (.restart .power) => [1, 0, 0]
  | some (.restart .pin) => [1, 0, 1]
  | some (.linkError .check) => [1, 0, 0]
  | some (.linkError .truncated) => [1, 0, 1]
  | some (.linkError .overlength) => [1, 0, 2]
  | some (.tag t) => [1] ++ bytesOf 2 t.toNat
  | some (.bar b) => [1, barNumber b, 0xFF]
  | some (.needle b n) => [1, barNumber b, BitVec.ofNat 8 n.val]

theorem EventSlot.bytes_eq (slot : EventSlot) : slot.bytes = detailForm slot.detail ++ [BitVec.ofNat 8 slot.count] := by
  obtain ⟨count, detail⟩ := slot
  rcases detail with _ | (_ | _) | (_ | _ | _) | t | b | ⟨b, n⟩ <;> rfl

theorem EventSlot.bytes_length (slot : EventSlot) : slot.bytes.length = 4 := by
  obtain ⟨count, detail⟩ := slot
  rcases detail with _ | (_ | _) | (_ | _ | _) | t | b | ⟨b, n⟩ <;> rfl

/-- The report of EVREAD (R153). -/
def State.eventReport (s : State) : List Byte :=
  bytesOf 3 s.stickyFlags.toNat ++ bytesOf 3 s.levelFlags.toNat
    ++ Sticky.all.flatMap (fun e => detailForm (s.event e).detail ++ [BitVec.ofNat 8 (s.event e).count])
    ++ bytesOf 3 s.masks[0].toNat ++ bytesOf 3 s.masks[1].toNat ++ bytesOf 3 s.masks[2].toNat
    ++ bytesOf 3 s.masks[3].toNat ++ [s.lineStates]

theorem evread_nil (s : State) : evread [] s = accept s s.eventReport := by
  have slots : (fun e => detailForm (s.event e).detail ++ [BitVec.ofNat 8 (s.event e).count])
      = fun e => (s.event e).bytes := funext fun e => (s.event e).bytes_eq.symm
  rw [State.eventReport, slots]
  rfl

theorem State.eventReport_length (s : State) : s.eventReport.length = 91 := by
  have slot (e : Sticky) : (detailForm (s.event e).detail ++ [BitVec.ofNat 8 (s.event e).count]).length = 4 := by
    rw [← EventSlot.bytes_eq, EventSlot.bytes_length]
  have slots : (Sticky.all.flatMap fun e => detailForm (s.event e).detail ++ [BitVec.ofNat 8 (s.event e).count]).length
      = 72 := by
    rw [List.length_flatMap, funext slot]
    rfl
  simp only [State.eventReport, List.length_append, slots, bytesOf_length, List.length_singleton]

/-- Settles O47. -/
theorem eventsReported : Obligations.EventsReported := by
  unfold Obligations.EventsReported
  refine ⟨rfl, rfl, fun s tag takes => ⟨?_, fun p nonempty => ?_, State.attentionLine_iff takes.1⟩⟩
  · refine ⟨s.stickyFlags, s.levelFlags, s.lineStates, s.eventReport, State.getLsbD_stickyFlags_number,
      State.getLsbD_stickyFlags_level (by omega), State.getLsbD_stickyFlags_level (by omega),
      State.getLsbD_stickyFlags_level (by omega), fun e => ?_, ?_, ?_, ?_, State.linesAre takes.1,
      request_of_report takes fun l => evread_nil _, s.eventReport_length, rfl⟩
    · have := e.number_range
      rw [Bool.eq_false_iff, ne_eq, State.getLsbD_levelFlags e.number_range.1]
      omega
    · rw [Bool.eq_iff_iff, State.getLsbD_levelFlags (by decide)]
      simp
    · rw [State.getLsbD_levelFlags (by decide)]
      simp
    · rw [State.getLsbD_levelFlags (by decide)]
      simp
  · exact request_of_refusal takes fun l => if_pos (by simpa using nonempty)

end Sys2Proof.Machine
end

section
/-! PROOF. The requests to a bar: what BRUN, BSTOP, BOVERRIDE and BREHEARSE stage, and how each refuses (R97 to R101).
-/

namespace Sys2Proof.Machine

variable {s : State}

/-! ### The control summary -/

theorem flag_eq (c : Bool) : flag c = if c = true then 1 else 0 := rfl

theorem flag_isSome {α : Type} (o : Option α) : flag o.isSome = if o = none then 0 else 1 := by
  cases o <;> rfl

theorem RunState.code_eq (r : RunState) : r.code = if r = .running then 1 else 0 := by
  cases r <;> rfl

/-- The reasons summed as bytes are the byte of their sum (R108). -/
theorem haltCode_byte : ∀ select defect encoder link freeze drive requested : Bool,
    ((if select then 1 else 0) + (if defect then 2 else 0) + (if encoder then 4 else 0) + (if link then 8 else 0)
      + (if freeze then 16 else 0) + (if drive then 32 else 0) + (if requested then 64 else 0) : Byte)
    = BitVec.ofNat 8 (select.toNat + 2 * defect.toNat + 4 * encoder.toNat + 8 * link.toNat + 16 * freeze.toNat
      + 32 * drive.toNat + 64 * requested.toNat) := by
  decide

theorem haltReasons_code (s : State) (b : Bar) :
    (haltReasons s.inputs b (s.bars.get b).control).code = BitVec.ofNat 8 (s.haltCode b) :=
  haltCode_byte _ _ _ _ _ _ _

/-- The control summary has the form of R97. -/
theorem State.controlSummary_eq (s : State) (b : Bar) : s.controlSummary b = s.summaryForm b := by
  have pending (p : Option RunRequest) : pendingRunCode p = match p with
      | none => 0
      | some .run => 1
      | some .stop => 2 := by
    rcases p with _ | (_ | _) <;> rfl
  unfold State.controlSummary State.summaryForm
  dsimp only
  rw [RunState.code_eq, haltReasons_code]
  exact congrArg (fun p => [_, p, _]) (pending _)

/-! ### The requests of one bar -/

/-- A request that names a bar is carried out for that bar. -/
theorem barRequest_named (b : Bar) (s : State) (f : Bar → Answer) : barRequest [barNumber b] s f = f b := by
  unfold barRequest
  simp only [fieldByte_eq, List.getD_cons_zero, barOf_barNumber]
  exact if_neg (by simp)

theorem barRequest_outside {x : Byte} (h : 2 < x.toNat) (s : State) (f : Bar → Answer) :
    barRequest [x] s f = refuse s .range := by
  unfold barRequest
  simp only [fieldByte_eq, List.getD_cons_zero, barOf_eq_none h]
  exact if_neg (by simp)

theorem barRequest_length {p : List Byte} (h : p.length ≠ 1) (s : State) (f : Bar → Answer) :
    barRequest p s f = refuse s .length := if_pos h

/-- A request whose owner changes the control fields of one bar alone. -/
theorem request_of_control (takes : s.takesFrames) {kind tag : Byte} {owner : State → Answer} {b : Bar} {c : Control}
    {p : List Byte} (ho : ∀ l, owner { s with link := l } = accept (({ s with link := l } : State).setControl b c) p) :
    request kind tag owner s = .next { s with
      bars := s.bars.set b { s.bars.get b with control := c }
      link := s.link.answered kind tag .ok p } :=
  request_of_answer takes (u := { s with bars := s.bars.set b { s.bars.get b with control := c } }) ho

/-- BRUN while no level reason stands clears the latched reasons and stages a run (R97). -/
theorem brun_ready {b : Bar} (freeze : s.inputs.freeze = false) (drive : s.inputs.driveFault.get b = false) :
    brun [barNumber b] s = accept (s.setControl b { (s.bars.get b).control with
        latched := ⟨false, false, false, false⟩
        pendingRun := if (s.bars.get b).control.run = .stopped then some .run else none })
      [if (s.bars.get b).control.run = .running then 1 else 0, if (s.bars.get b).control.run = .stopped then 1 else 0,
        if (s.bars.get b).control.requested then 64 else 0] := by
  rw [brun, barRequest_named, freeze, drive]
  show accept (s.setControl b (s.bars.get b).control.acceptRun)
    ((s.setControl b (s.bars.get b).control.acceptRun).controlSummary b) = _
  have control : ((s.setControl b (s.bars.get b).control.acceptRun).bars.get b).control
      = (s.bars.get b).control.acceptRun := by
    rw [State.setControl, State.setBar, PerBar.get_set_self]
  have code : (haltReasons s.inputs b (s.bars.get b).control.acceptRun).code
      = if (s.bars.get b).control.requested then 64 else 0 := by
    simp [haltReasons, Control.acceptRun, HaltReasons.code, Latched.clear, freeze, drive]
  have pending : pendingRunCode (s.bars.get b).control.acceptRun.pendingRun
      = if (s.bars.get b).control.run = .stopped then 1 else 0 := by
    unfold Control.acceptRun
    dsimp only
    split <;> rfl
  rw [State.controlSummary, control]
  dsimp only
  rw [RunState.code_eq, pending]
  exact congrArg (fun c => accept _ [_, _, c]) code

/-- BSTOP stages a stop (R98). -/
theorem bstop_named (b : Bar) (s : State) :
    bstop [barNumber b] s = accept (s.setControl b { (s.bars.get b).control with pendingRun := some .stop })
      [if (s.bars.get b).control.run = .running then 1 else 0, 2, BitVec.ofNat 8 (s.haltCode b)] := by
  rw [bstop, barRequest_named]
  dsimp only
  rw [State.controlSummary, State.setControl, State.setBar, PerBar.get_set_self]
  dsimp only
  rw [RunState.code_eq]
  exact congrArg (fun c => accept _ [_, _, c]) (haltReasons_code s b)

/-- BOVERRIDE of a bar and as many numbers as it says (R99). -/
theorem boverride_sized (x m : Byte) {numbers : List Byte} (size : numbers.length = m.toNat) (s : State) :
    boverride ([x, m] ++ numbers) s =
      match barOf? x.toNat with
      | none => refuse s .range
      | some b =>
        if 40 < m.toNat ∨ numbers.any (fun n => 39 < n.toNat) then refuse s .range
        else accept (s.setControl b { (s.bars.get b).control with pendingOverride := some (needleSetOf numbers) })
          [flag (s.bars.get b).control.pendingOverride.isSome] := by
  have sized : ¬ (([x, m] ++ numbers).length < 2 ∨ ([x, m] ++ numbers).length ≠ 2 + m.toNat) := by
    simp only [List.length_append, List.length_cons, List.length_nil]
    omega
  unfold boverride
  simp only [fieldByte_eq, List.cons_append, List.nil_append, List.getD_cons_zero, List.getD_cons_succ, List.drop_succ_cons,
    List.drop_zero]
  exact if_neg sized

theorem boverride_named (b : Bar) {numbers : List Byte} (most : numbers.length ≤ 40) (small : ∀ n ∈ numbers, n.toNat ≤ 39)
    (s : State) : boverride ([barNumber b, BitVec.ofNat 8 numbers.length] ++ numbers) s
      = accept (s.setControl b { (s.bars.get b).control with pendingOverride := some (needleSetOf numbers) })
        [if (s.bars.get b).control.pendingOverride = none then 0 else 1] := by
  have count : (BitVec.ofNat 8 numbers.length).toNat = numbers.length := toNat_ofNat_of_lt (by omega)
  have fits : ¬ (40 < numbers.length ∨ numbers.any (fun n => 39 < n.toNat) = true) := by
    rw [List.any_eq_true]
    rintro (above | ⟨n, mem, above⟩)
    · omega
    · have := small n mem
      simp at above
      omega
  rw [boverride_sized _ _ count.symm, barOf_barNumber, count, ← flag_isSome]
  exact if_neg fits

theorem boverride_outside {x m : Byte} {numbers : List Byte} (size : numbers.length = m.toNat)
    (outside : 2 < x.toNat ∨ 40 < m.toNat ∨ ∃ n ∈ numbers, 39 < n.toNat) (s : State) :
    boverride ([x, m] ++ numbers) s = refuse s .range := by
  rw [boverride_sized x m size]
  cases named : barOf? x.toNat with
  | none => rfl
  | some b =>
    have bar : ¬ 2 < x.toNat := fun h => by simp [barOf_eq_none h] at named
    refine if_pos ((outside.resolve_left bar).imp_right fun ⟨n, mem, above⟩ => ?_)
    exact List.any_eq_true.mpr ⟨n, mem, decide_eq_true above⟩

/-- BREHEARSE of a bar (R101). -/
theorem brehearse_named (b : Bar) (on : Bool) (s : State) : brehearse [barNumber b, if on then 1 else 0] s
    = accept (s.setControl b { (s.bars.get b).control with pendingRehearsal := some on })
      [if (s.bars.get b).control.pendingRehearsal = none then 0 else 1] := by
  unfold brehearse
  simp only [fieldByte_eq, List.getD_cons_zero, List.getD_cons_succ, barOf_barNumber, flag_isSome]
  cases on <;> exact (if_neg (by simp)).trans (if_neg (by decide))

theorem brehearse_outside {x m : Byte} (outside : 2 < x.toNat ∨ 1 < m.toNat) (s : State) :
    brehearse [x, m] s = refuse s .range := by
  unfold brehearse
  simp only [fieldByte_eq, List.getD_cons_zero, List.getD_cons_succ]
  refine (if_neg (by simp)).trans ?_
  cases named : barOf? x.toNat with
  | none => rfl
  | some b => exact if_pos (outside.resolve_left fun h => by simp [barOf_eq_none h] at named)

/-- Settles O39. -/
theorem barRequestsStage : Obligations.BarRequestsStage := by
  unfold Obligations.BarRequestsStage
  intro s tag b takes
  refine ⟨fun freeze drive => ?_, fun level => ?_, ?_, fun numbers most small => ?_, fun on => ?_, fun x above => ?_,
    fun x m numbers size outside => ?_, fun x m outside => ?_, fun p => ⟨fun length => ?_, fun length => ?_, fun length => ?_⟩⟩
  · exact request_of_control takes fun l => brun_ready (s := { s with link := l }) freeze drive
  · refine request_of_report takes fun l => ?_
    have stands : (s.inputs.freeze || s.inputs.driveFault.get b) = true := (Bool.or_eq_true _ _).mpr level
    rw [← State.controlSummary_eq]
    exact (barRequest_named b _ _).trans (if_pos stands)
  · exact request_of_control takes fun l => bstop_named b _
  · exact ⟨needleSetOf numbers, getLsbD_needleSetOf numbers small,
      request_of_control takes fun l => boverride_named b most small _⟩
  · exact request_of_control takes fun l => brehearse_named b on _
  · exact ⟨request_of_refusal takes fun l => barRequest_outside above _ _,
      request_of_refusal takes fun l => barRequest_outside above _ _⟩
  · exact request_of_refusal takes fun l => boverride_outside size outside _
  · exact request_of_refusal takes fun l => brehearse_outside outside _
  · exact ⟨request_of_refusal takes fun l => barRequest_length length _ _,
      request_of_refusal takes fun l => barRequest_length length _ _⟩
  · refine request_of_refusal takes fun l => ?_
    unfold boverride
    rw [fieldByte_eq]
    exact if_pos length
  · exact request_of_refusal takes fun l => if_pos length

end Sys2Proof.Machine
end

section
/-! PROOF. What BINFO and NDINFO report (R108, R130, R131). -/

namespace Sys2Proof.Machine

variable {s : State}

/-! ### The parts of a bar's report -/

/-- A staged override set as reported: present, then the set (R108). -/
def overrideForm : Option NeedleSet → List Byte
  | some o => [1] ++ bytesOf 5 o.toNat
  | none => [0, 0, 0, 0, 0, 0]

/-- A position that may be absent as reported: present, then the position (R108). -/
def headForm : Option Word → List Byte
  | some h => [1] ++ bytesOf 4 h.toNat
  | none => [0, 0, 0, 0, 0]

/-- The current panel as reported: its presence, then its head (R108). -/
def currentForm : Option CurrentPanel → List Byte
  | some k => [if k.presence = .inside then 1 else 2] ++ bytesOf 4 k.head.toNat
  | none => [0, 0, 0, 0, 0]

/-- The cursor as reported (R108). -/
def cursorForm : Option Cursor → List Byte
  | some k => [1, BitVec.ofNat 8 (k.pattern.val + 1), BitVec.ofNat 8 k.page.val, BitVec.ofNat 8 k.index.val]
  | none => [0, 0, 0, 0]

/-- A frame as reported (R108). -/
def SentFrame.form (f : SentFrame) : List Byte := bytesOf 5 f.needles.toNat ++ headForm f.panel

/-- The transfer in flight as reported (R108). -/
def transferForm : Option SentFrame → List Byte
  | some f => [1] ++ f.form
  | none => [0, 0, 0, 0, 0, 0, 0, 0, 0, 0, 0]

theorem overrideForm_eq (o : Option NeedleSet) : [flag o.isSome] ++ setBytes (o.getD 0) = overrideForm o := by
  cases o <;> rfl

theorem headForm_eq (h : Option Word) : [flag h.isSome] ++ bytesOfHead h = headForm h := by
  cases h <;> rfl

theorem currentForm_eq (k : Option CurrentPanel) :
    [presenceCode k] ++ bytesOfHead (k.map (·.head)) = currentForm k := by
  rcases k with _ | ⟨_, _, _ | _⟩ <;> rfl

theorem SentFrame.form_eq (f : SentFrame) : f.bytes = f.form := by
  rw [SentFrame.bytes, List.append_assoc, headForm_eq]
  rfl

theorem transferForm_eq (t : Option SentFrame) : [flag t.isSome] ++ (t.getD .blank).bytes = transferForm t := by
  cases t with
  | none => rfl
  | some f => exact congrArg (1 :: ·) f.form_eq

theorem MotifFrame.length_flatMap_bytes (stack : List MotifFrame) :
    (stack.reverse.flatMap MotifFrame.bytes).length = 4 * stack.length := by
  have four (f : MotifFrame) : f.bytes.length = 4 := rfl
  rw [List.length_flatMap, funext four, List.map_const', List.sum_replicate, List.length_reverse, smul_eq_mul, mul_comm]

/-- The motif stack as reported: the frames from the bottom up, then 0 (R108). -/
theorem stackBytes_eq {stack : List MotifFrame} (h : stack.length ≤ 4) :
    stackBytes stack = stack.reverse.flatMap MotifFrame.bytes ++ List.replicate (16 - 4 * stack.length) 0 := by
  rw [stackBytes, List.take_append, MotifFrame.length_flatMap_bytes, List.take_of_length_le, List.take_replicate,
    min_eq_left (by omega)]
  rw [MotifFrame.length_flatMap_bytes]
  omega

/-- The report of one bar's context, part by part (R108). -/
theorem State.barBytes_eq {b : Bar} (depth : (s.bars.get b).place.stack.length ≤ 4) :
    let c := (s.bars.get b).control
    let q := (s.bars.get b).place
    s.barBytes b = [barNumber b] ++ s.summaryForm b
      ++ [flag c.rehearsal, pendingRehearsalCode c.pendingRehearsal] ++ bytesOf 5 c.override.toNat
      ++ overrideForm c.pendingOverride ++ [q.outcome.code] ++ currentForm q.current
      ++ [flag q.stoppedInPanel] ++ bytesOf 4 (BitVec.ofInt 32 q.lastY).toNat ++ cursorForm q.cursor
      ++ bytesOf 4 (BitVec.ofInt 32 q.ys).toNat ++ bytesOf 4 (BitVec.ofInt 32 q.ps).toNat
      ++ [BitVec.ofNat 8 q.lockCount, q.tail.code, flag q.finished, BitVec.ofNat 8 q.stack.length]
      ++ q.stack.reverse.flatMap MotifFrame.bytes ++ List.replicate (16 - 4 * q.stack.length) 0
      ++ bytesOf 4 (BitVec.ofInt 32 q.p).toNat ++ bytesOf 2 (BitVec.ofInt 16 q.x).toNat
      ++ bytesOf 5 q.engaged.toNat ++ q.previous.form ++ transferForm c.transfer := by
  intro c q
  rw [← State.controlSummary_eq, ← overrideForm_eq, ← currentForm_eq, ← SentFrame.form_eq, ← transferForm_eq]
  simp only [State.barBytes, stackBytes_eq depth, State.controlSummary, signed4, signed2, setBytes, List.append_assoc, List.cons_append,
    List.nil_append]
  cases q.cursor <;> rfl

theorem cursorForm_length (k : Option Cursor) : (cursorForm k).length = 4 := by
  cases k <;> rfl

theorem State.barBytes_length {b : Bar} (depth : (s.bars.get b).place.stack.length ≤ 4) : (s.barBytes b).length = 92 := by
  rw [State.barBytes_eq depth, ← overrideForm_eq, ← currentForm_eq, ← SentFrame.form_eq, ← transferForm_eq]
  simp only [List.length_append, MotifFrame.length_flatMap_bytes, List.length_replicate, cursorForm_length, setBytes, bytesOfHead, bytesOfWord, SentFrame.bytes,
    State.summaryForm, bytesOf_length, List.length_cons, List.length_nil]
  omega

/-! ### The report of a needle -/

/-- A needle's record has the form of R130. -/
theorem State.needleBytes_eq (s : State) (b : Bar) (n : NeedleNo) : s.needleBytes b n = (s.needle b n).form b n := by
  unfold State.needleBytes NeedleRecord.form
  dsimp only
  rw [flag_isSome]
  cases (s.needle b n).state <;> rfl

/-- A request that names a needle is carried out for that needle. -/
theorem needleRequest_named (b : Bar) (n : NeedleNo) (s : State) (f : Bar → NeedleNo → Answer) :
    needleRequest [barNumber b, BitVec.ofNat 8 n.val] s f = f b n := by
  unfold needleRequest
  simp only [fieldByte_eq, List.getD_cons_zero, List.getD_cons_succ, barOf_barNumber, needleOf_byte]
  exact if_neg (by simp)

theorem needleRequest_outside {x y : Byte} (outside : 2 < x.toNat ∨ 39 < y.toNat) (s : State)
    (f : Bar → NeedleNo → Answer) : needleRequest [x, y] s f = refuse s .range := by
  unfold needleRequest
  simp only [fieldByte_eq, List.getD_cons_zero, List.getD_cons_succ]
  refine (if_neg (by simp)).trans ?_
  cases bar : barOf? x.toNat with
  | none => rfl
  | some b =>
    have above := outside.resolve_left fun h => by simp [barOf_eq_none h] at bar
    rw [needleOf_eq_none above]

theorem needleRequest_length {p : List Byte} (h : p.length ≠ 2) (s : State) (f : Bar → NeedleNo → Answer) :
    needleRequest p s f = refuse s .length := if_pos h

theorem needleByte_ne_all (n : NeedleNo) : (BitVec.ofNat 8 n.val).toNat ≠ 0xFF := by
  rw [toNat_ofNat_of_lt (by omega)]
  omega

/-- NDINFO of one needle is a request that names a needle. -/
theorem ndinfo_of_ne {x y : Byte} (one : y.toNat ≠ 0xFF) (s : State) :
    ndinfo [x, y] s = needleRequest [x, y] s fun b n => accept s (s.needleBytes b n) := by
  refine if_neg fun ⟨_, all⟩ => one ?_
  rw [fieldByte_eq] at all
  exact all

/-- The states of a bar's needles in the order of their numbers (R131). -/
theorem State.needleStates_eq (s : State) (b : Bar) (f : NeedleRecord → Byte) :
    (s.needles.get b).toList.map f = (List.finRange 40).map fun n => f (s.needle b n) := by
  refine List.ext_getElem (by simp) fun i hi hi' => ?_
  rw [List.getElem_map, List.getElem_map, List.getElem_finRange]
  rfl

/-- A scan record as reported (R131). -/
def scanForm : Option Scan → List Byte
  | some scan => [1] ++ bytesOf 5 scan.expected.toNat ++ headForm scan.panel
  | none => List.replicate 11 0

theorem State.barNeedleBytes_eq (s : State) (b : Bar) : s.barNeedleBytes b
    = [barNumber b] ++ (List.finRange 40).map (fun n => (s.needle b n).state.code) ++ scanForm (s.scans.get b).scan := by
  unfold State.barNeedleBytes
  rw [State.needleStates_eq s b (·.state.code)]
  cases (s.scans.get b).scan with
  | none => rfl
  | some scan =>
    rw [scanForm, ← headForm_eq, List.append_assoc]
    rfl

/-- Settles O45. -/
theorem barAndNeedleReports : Obligations.BarAndNeedleReports := by
  unfold Obligations.BarAndNeedleReports
  intro s tag takes
  refine ⟨⟨fun b depth => ?_, fun x above => ?_, fun p length => ?_⟩, fun b n => ?_, fun b => ?_, fun x above => ?_,
    fun x y outside => ?_, fun p length => ?_⟩
  · exact ⟨s.barBytes b, request_of_report takes fun l => barRequest_named b _ _, State.barBytes_length depth,
      State.barBytes_eq depth⟩
  · exact request_of_refusal takes fun l => barRequest_outside above _ _
  · exact request_of_refusal takes fun l => barRequest_length length _ _
  · rw [← State.needleBytes_eq]
    exact request_of_report takes fun l => (ndinfo_of_ne (needleByte_ne_all n) _).trans (needleRequest_named b n _ _)
  · refine request_of_report takes fun l => ?_
    unfold ndinfoWholeBar
    rw [barOf_barNumber]
    exact congrArg (accept _) (s.barNeedleBytes_eq b)
  · refine request_of_refusal takes fun l => ?_
    unfold ndinfoWholeBar
    rw [barOf_eq_none above]
  · refine request_of_refusal takes fun l => ?_
    by_cases all : y.toNat = 0xFF
    · obtain rfl : y = 0xFF := BitVec.eq_of_toNat_eq all
      have above : 2 < x.toNat := outside.resolve_right fun ⟨_, ne⟩ => ne rfl
      rw [ndinfo_whole, ndinfoWholeBar, barOf_eq_none above]
    · exact (ndinfo_of_ne all _).trans (needleRequest_outside (outside.imp_right (·.1)) _ _)
  · refine request_of_refusal takes fun l => (if_neg fun ⟨two, _⟩ => length two).trans ?_
    exact needleRequest_length length _ _

end Sys2Proof.Machine
end

section
/-! PROOF. The requests that name a needle: NDREARM, NDRESTORE, NDRETIRE and NDLOAD (R126 to R129). -/

namespace Sys2Proof.Machine

variable {s : State}

/-- A needle's record written back as it stands changes nothing. -/
theorem State.setNeedle_needle_self (s : State) (b : Bar) (n : NeedleNo) : s.setNeedle b n (s.needle b n) = s := by
  have same : (s.needles.get b).set n (s.needles.get b)[n] = s.needles.get b := Vector.set_getElem_self n.isLt
  rw [State.setNeedle, State.needle, same, PerBar.set_get]

/-- A request whose owner replaces one needle's record alone. -/
theorem request_of_needle (takes : s.takesFrames) {kind tag : Byte} {owner : State → Answer} {b : Bar} {n : NeedleNo}
    {r : NeedleRecord} {p : List Byte}
    (ho : ∀ l, owner { s with link := l } = accept (({ s with link := l } : State).setNeedle b n r) p) :
    request kind tag owner s = .next { s with
      needles := s.needles.set b ((s.needles.get b).set n r)
      link := s.link.answered kind tag .ok p } :=
  request_of_answer takes (u := { s with needles := s.needles.set b ((s.needles.get b).set n r) }) ho

/-- A needle request accepted answers the record after it (R130). -/
theorem acceptNeedle_eq (s : State) (b : Bar) (n : NeedleNo) (r : NeedleRecord) :
    acceptNeedle s b n r = accept (s.setNeedle b n r) (r.form b n) := by
  rw [acceptNeedle, State.needleBytes_eq, State.needle_setNeedle_self]

theorem ndrearm_named (b : Bar) (n : NeedleNo) (s : State) : ndrearm [barNumber b, BitVec.ofNat 8 n.val] s
    = if (s.needle b n).state = .broken ∨ (s.needle b n).state = .probation then
        accept (s.setNeedle b n
            { s.needle b n with state := .probation, progress := 0, retries := s.params.retries, countdown := none })
          (({ s.needle b n with
            state := .probation, progress := 0, retries := s.params.retries, countdown := none } : NeedleRecord).form b n)
      else refuse s .state := by
  rw [ndrearm, needleRequest_named]
  simp only [acceptNeedle_eq]

theorem ndrestore_named (b : Bar) (n : NeedleNo) (s : State) : ndrestore [barNumber b, BitVec.ofNat 8 n.val] s
    = if (s.needle b n).state = .retired then acceptNeedle s b n { s.needle b n with
        state := if 0 < (s.needle b n).thread then .ready else .threadOut
        breaks := 0
        misses := 0
        progress := 0
        retries := 0
        countdown := none }
      else refuse s .state := by
  rw [ndrestore, needleRequest_named]

theorem ndretire_named (b : Bar) (n : NeedleNo) (s : State) : ndretire [barNumber b, BitVec.ofNat 8 n.val] s
    = if (s.needle b n).state = .retired then acceptNeedle s b n (s.needle b n)
      else acceptNeedle s b n { s.needle b n with state := .retired, countdown := none, misses := 0, progress := 0 } := by
  rw [ndretire, needleRequest_named]

/-! ### NDLOAD -/

theorem field_two_bytesOf_four (x y : Byte) {len : Nat} (h : len < 2 ^ 32) : field ([x, y] ++ bytesOf 4 len) 2 4 = len := by
  have read := field_bytesOf_middle (pre := [x, y]) (k := 4) rfl (by omega : len < 256 ^ 4) []
  rwa [List.append_nil] at read

/-- NDLOAD of a bar, a needle or the whole bar, and a length (R129). -/
theorem ndload_eq (x y : Byte) {len : Nat} (h : len < 2 ^ 32) (s : State) : ndload ([x, y] ++ bytesOf 4 len) s
    = match barOf? x.toNat with
      | none => refuse s .range
      | some b =>
        if len < 1 ∨ 2000000000 < len then refuse s .range
        else if y.toNat = 0xFF then accept (s.mapNeedles b (NeedleRecord.load len)) [byte (s.threadOutCount b)]
        else
          match needleOf? y.toNat with
          | some n => accept (s.setNeedle b n ((s.needle b n).load len)) [flag ((s.needle b n).state = .threadOut)]
          | none => refuse s .range := by
  have size : ([x, y] ++ bytesOf 4 len).length = 6 := by simp [bytesOf_length]
  unfold ndload
  rw [field_two_bytesOf_four x y h]
  simp only [fieldByte_eq, List.cons_append, List.getD_cons_zero, List.getD_cons_succ]
  exact if_neg (not_not.mpr size)

theorem ndload_named (b : Bar) (n : NeedleNo) {len : Nat} (one : 1 ≤ len) (most : len ≤ 2000000000) (s : State) :
    ndload ([barNumber b, BitVec.ofNat 8 n.val] ++ bytesOf 4 len) s
      = accept (s.setNeedle b n ((s.needle b n).load len)) [if (s.needle b n).state = .threadOut then 1 else 0] := by
  rw [ndload_eq _ _ (by omega), barOf_barNumber, needleOf_byte]
  refine (if_neg (by omega)).trans ((if_neg (needleByte_ne_all n)).trans ?_)
  simp only [flag_eq, decide_eq_true_eq]

theorem ndload_whole (b : Bar) {len : Nat} (one : 1 ≤ len) (most : len ≤ 2000000000) (s : State) :
    ndload ([barNumber b, 0xFF] ++ bytesOf 4 len) s
      = accept (s.mapNeedles b (NeedleRecord.load len)) [byte (s.threadOutCount b)] := by
  rw [ndload_eq _ _ (by omega), barOf_barNumber]
  exact (if_neg (by omega)).trans (if_pos rfl)

theorem ndload_outside {x y : Byte} {len : Nat} (fits : len < 2 ^ 32)
    (outside : 2 < x.toNat ∨ 39 < y.toNat ∧ y ≠ 0xFF ∨ len = 0 ∨ 2000000000 < len) (s : State) :
    ndload ([x, y] ++ bytesOf 4 len) s = refuse s .range := by
  rw [ndload_eq x y fits]
  cases bar : barOf? x.toNat with
  | none => rfl
  | some b =>
    have rest := outside.resolve_left fun h => by simp [barOf_eq_none h] at bar
    by_cases length : len < 1 ∨ 2000000000 < len
    · exact if_pos length
    · obtain ⟨above, one⟩ := rest.resolve_right (by omega)
      rw [needleOf_eq_none above]
      exact (if_neg length).trans (if_neg fun h => one (BitVec.eq_of_toNat_eq h))

/-- How many needles of a bar are in THREAD_OUT, counted by number (R129). -/
theorem State.threadOutCount_eq (s : State) (b : Bar) :
    s.threadOutCount b = (List.finRange 40).countP fun m => (s.needle b m).state = .threadOut := by
  have needles : (s.needles.get b).toList = (List.finRange 40).map (s.needle b) := by
    refine List.ext_getElem (by simp) fun i hi hi' => ?_
    rw [List.getElem_map, List.getElem_finRange]
    rfl
  rw [State.threadOutCount, needles, List.countP_map]
  rfl

/-- Settles O44. -/
theorem needleRequestsAct : Obligations.NeedleRequestsAct := by
  unfold Obligations.NeedleRequestsAct
  intro s tag b n takes q named becomes reported rearmed restored retired
  refine ⟨fun unfit => ?_, fun broken probation => ?_, fun out => ?_, fun fit => ?_, fun fit => ?_, fun out => ?_,
    fun len one most => ⟨?_, ?_⟩, fun x y outside => ⟨?_, ?_, ?_⟩, fun x y len fits outside => ?_,
    fun p => ⟨fun length => ⟨?_, ?_, ?_⟩, fun length => ?_⟩⟩
  · exact request_of_needle takes fun l => (ndrearm_named b n _).trans (if_pos unfit)
  · exact request_of_refusal takes fun l => (ndrearm_named b n _).trans (if_neg (not_or.mpr ⟨broken, probation⟩))
  · exact request_of_needle takes fun l => (ndrestore_named b n _).trans <| (if_pos out).trans (acceptNeedle_eq _ _ _ _)
  · exact request_of_refusal takes fun l => (ndrestore_named b n _).trans (if_neg fit)
  · exact request_of_needle takes fun l => (ndretire_named b n _).trans <| (if_neg fit).trans (acceptNeedle_eq _ _ _ _)
  · refine request_of_report takes fun l => (ndretire_named b n _).trans <| (if_pos out).trans ?_
    rw [acceptNeedle_eq, State.setNeedle_needle_self]
    rfl
  · exact request_of_needle takes fun l => ndload_named b n one most _
  · refine ⟨(s.mapNeedles b (NeedleRecord.load len)).needles, ?_, fun b' m => ?_⟩
    · rw [← State.threadOutCount_eq]
      exact request_of_answer takes (u := s.mapNeedles b (NeedleRecord.load len)) fun l => ndload_whole b one most _
    · refine (s.needle_mapNeedles b b' (NeedleRecord.load len) m).trans ?_
      split
      · subst_vars
        rfl
      · rfl
  · exact request_of_refusal takes fun l => needleRequest_outside outside _ _
  · exact request_of_refusal takes fun l => needleRequest_outside outside _ _
  · exact request_of_refusal takes fun l => needleRequest_outside outside _ _
  · exact request_of_refusal takes fun l => ndload_outside fits outside _
  · exact request_of_refusal takes fun l => needleRequest_length length _ _
  · exact request_of_refusal takes fun l => needleRequest_length length _ _
  · exact request_of_refusal takes fun l => needleRequest_length length _ _
  · exact request_of_refusal takes fun l => if_pos length

end Sys2Proof.Machine
end

section
/-! PROOF. The messages of the needle monitor: a scan request, and a consumption notice drawn from each needle of its
frame, found in its record before the notice (R113, R114, R121 to R125). -/

namespace Sys2Proof.Machine

variable {s : State} {b : Bar}

/-! ### Scan requests -/

/-- Overtaking a scan in flight can only raise SCAN_LATE (R114). -/
theorem State.overtakeScan_frame (s : State) (b : Bar) :
    s.overtakeScan b = { s with events := (s.overtakeScan b).events } := by
  unfold State.overtakeScan State.raiseIf
  split
  · split <;> rfl
  · rfl

/-- SCAN_LATE is raised when the scan overtaken expected any needle (R114). -/
theorem State.overtakeScan_event (s : State) (b : Bar) (e : Sticky) : (s.overtakeScan b).event e
    = if ((s.scans.get b).scan.any fun scan => scan.expected != 0) = true ∧ e = .scanLate then
        raised (s.event .scanLate) (.bar b)
      else s.event e := by
  unfold State.overtakeScan
  split
  · rename_i scan found
    rw [found, State.event_raiseIf]
    rfl
  · rename_i found
    rw [found]
    simp

theorem State.late_iff : ((s.scans.get b).scan.any fun scan => scan.expected != 0) = true
    ↔ ∃ old, s.scans.get b = .scanning old ∧ old.expected ≠ 0 := by
  cases s.scans.get b <;> simp [SensorChain.scan]

/-- What a scan request does to the state of the needle monitor (R113, R114, R121). -/
theorem State.takeScanRequest_frame (s : State) (r : ScanRequest) : s.takeScanRequest r = { s with
    scans := s.scans.set r.bar (.scanning ⟨r.expected, r.panel⟩)
    needles := (s.takeScanRequest r).needles
    events := (s.overtakeScan r.bar).events } := by
  unfold State.takeScanRequest
  dsimp only
  rw [State.overtakeScan_frame]
  split <;> rfl

/-- The countdowns of the bar are lowered at a running request (R121). -/
theorem State.needle_takeScanRequest (r : ScanRequest) (c : Bar) (n : NeedleNo) : (s.takeScanRequest r).needle c n
    = if r.running = true ∧ c = r.bar then (s.needle c n).lowerCountdown else s.needle c n := by
  have kept (c : Bar) (n : NeedleNo) :
      ((s.overtakeScan r.bar).setScan r.bar (.scanning ⟨r.expected, r.panel⟩)).needle c n = s.needle c n := by
    rw [State.overtakeScan_frame]
    rfl
  unfold State.takeScanRequest
  dsimp only
  split
  · rename_i running
    rw [State.needle_mapNeedles, kept]
    simp [running]
  · rename_i stopped
    rw [kept, if_neg fun h => stopped h.1]

theorem NeedleRecord.lowerCountdown_later {q : NeedleRecord} {c : Nat} (broken : q.state = .broken)
    (countdown : q.countdown = some (c + 2)) : q.lowerCountdown = { q with countdown := some (c + 1) } := by
  simp [NeedleRecord.lowerCountdown, broken, countdown]

theorem NeedleRecord.lowerCountdown_out {q : NeedleRecord} (broken : q.state = .broken) (countdown : q.countdown = some 1) :
    q.lowerCountdown = { q with state := .probation, progress := 0, countdown := none, retries := q.retries - 1 } := by
  simp [NeedleRecord.lowerCountdown, broken, countdown]

theorem NeedleRecord.lowerCountdown_idle {q : NeedleRecord} (h : q.state ≠ .broken ∨ q.countdown = none) :
    q.lowerCountdown = q := by
  unfold NeedleRecord.lowerCountdown
  split
  · simp_all
  · rfl

/-- Settles O41: the needle clauses by the cases of the countdown. -/
theorem scanRequestTaken : Obligations.ScanRequestTaken := by
  unfold Obligations.ScanRequestTaken
  intro s r operates
  have taken : exec (.scanRequest r) s = .next ((s.removeMessage (.scan r)).takeScanRequest r) :=
    (exec_scanRequest r s).trans (arrival_next operates _)
  have frame := (s.removeMessage (.scan r)).takeScanRequest_frame r
  have event (e : Sticky) : ((s.removeMessage (.scan r)).takeScanRequest r).event e = _ :=
    (congrArg (State.event · e) frame).trans ((s.removeMessage (.scan r)).overtakeScan_event r.bar e)
  have needle := State.needle_takeScanRequest (s := s.removeMessage (.scan r)) r
  refine ⟨⟨_, taken, ?_, ?_, ?_, ?_, ⟨fun late => ?_, fun early => ?_⟩, fun e other => ?_, fun c n still => ?_,
    fun running n => ?_⟩, fun n => ⟨fun running broken last => ?_, fun idle => ?_⟩⟩
  · rw [frame]
    rfl
  · exact congrArg State.messages frame
  · exact congrArg State.scans frame
  · rw [State.scanOut, frame]
    simp [operates]
  · exact (event _).trans (if_pos ⟨State.late_iff.mpr late, rfl⟩)
  · exact (event _).trans (if_neg fun h => early (State.late_iff.mp h.1))
  · exact (event _).trans (if_neg fun h => other h.2)
  · exact (needle c n).trans (if_neg fun h => still.elim (· h.2) fun stopped => by simp [stopped] at h)
  · intro q
    have lowered := (needle r.bar n).trans (if_pos ⟨running, rfl⟩)
    exact ⟨fun broken c countdown => lowered.trans (NeedleRecord.lowerCountdown_later broken countdown),
      fun broken countdown => lowered.trans (NeedleRecord.lowerCountdown_out broken countdown),
      fun idle => lowered.trans (NeedleRecord.lowerCountdown_idle idle)⟩
  · have expires : exec (.retryCountdownExpiry n r) s = .next ((s.removeMessage (.scan r)).takeScanRequest r) := by
      rw [exec_retryCountdownExpiry, arrival_next operates]
      simp [running, broken, last]
    refine ⟨expires.trans taken.symm, _, expires, ?_⟩
    have lowered := (needle r.bar n).trans (if_pos ⟨running, rfl⟩)
    rw [lowered]
    exact congrArg NeedleRecord.state (NeedleRecord.lowerCountdown_out broken last)
  · rw [exec_retryCountdownExpiry, arrival_next operates]
    refine congrArg Host.Outcome.next (if_neg fun expires => ?_)
    simp only [Bool.and_eq_true, decide_eq_true_eq] at expires
    obtain ⟨⟨running, broken⟩, last⟩ := expires
    obtain stopped | fit | early := idle
    · exact absurd running (by simp [stopped])
    · exact fit broken
    · exact early last

/-! ### What consumption does to one needle -/

/-- A needle whose thread is at 0 draws nothing (R122). -/
theorem drawThread_empty {reserve c : Nat} {q : NeedleRecord} (h : q.thread = 0) :
    drawThread reserve c q = ⟨q, false, false⟩ := if_pos h

/-- A needle with more thread than is drawn keeps the rest, and is warned once at the reserve (R122, R124). -/
theorem drawThread_more {reserve c : Nat} {q : NeedleRecord} (more : c < q.thread) : drawThread reserve c q
    = ⟨{ q with
        thread := q.thread - c
        lowWarned := q.lowWarned || decide (q.thread - c ≤ reserve) }, false,
      decide (q.thread - c ≤ reserve) && !q.lowWarned⟩ := by
  rw [drawThread, if_neg (by omega), if_pos more, warnLow]
  cases warned : q.lowWarned
  · by_cases low : q.thread - c ≤ reserve
    · simp [low]
    · simp [low]
  · simp

/-- A needle that has no more than is drawn is exhausted and warned (R123, R124). -/
theorem drawThread_out {reserve c : Nat} {q : NeedleRecord} (some_ : 0 < q.thread) (out : q.thread ≤ c) :
    drawThread reserve c q = ⟨{ q.exhaust with lowWarned := true }, true, !q.lowWarned⟩ := by
  have empty : q.exhaust.thread = 0 := by
    unfold NeedleRecord.exhaust
    split <;> rfl
  have warned : q.exhaust.lowWarned = q.lowWarned := by
    unfold NeedleRecord.exhaust
    split <;> rfl
  rw [drawThread, if_neg (by omega), if_neg (by omega), warnLow, ← warned]
  generalize q.exhaust = x at empty
  obtain ⟨state, misses, breaks, thread, lowWarned, progress, countdown, retries⟩ := x
  obtain rfl : thread = 0 := empty
  cases lowWarned <;> simp

theorem drawThread_exhausted_iff {reserve c : Nat} {q : NeedleRecord} :
    (drawThread reserve c q).exhausted = true ↔ 0 < q.thread ∧ q.thread ≤ c := by
  obtain empty | some_ := Nat.eq_zero_or_pos q.thread
  · simp [drawThread_empty empty, empty]
  · obtain more | out := Nat.lt_or_ge c q.thread
    · simp [drawThread_more more, more]
    · simp [drawThread_out some_ out, some_, out]

theorem drawThread_low_iff {reserve c : Nat} {q : NeedleRecord} : (drawThread reserve c q).low = true
    ↔ 0 < q.thread ∧ q.lowWarned = false ∧ (q.thread : Int) - c ≤ reserve := by
  obtain empty | some_ := Nat.eq_zero_or_pos q.thread
  · simp [drawThread_empty empty, empty]
  · obtain more | out := Nat.lt_or_ge c q.thread
    · rw [drawThread_more more, Bool.and_eq_true, decide_eq_true_eq, Bool.not_eq_true', and_comm]
      exact ⟨fun ⟨fresh, low⟩ => ⟨some_, fresh, by omega⟩, fun ⟨_, fresh, low⟩ => ⟨fresh, by omega⟩⟩
    · rw [drawThread_out some_ out, Bool.not_eq_true']
      exact ⟨fun fresh => ⟨some_, fresh, by omega⟩, fun ⟨_, fresh, _⟩ => fresh⟩

theorem NeedleRecord.exhaust_of_retired {q : NeedleRecord} (h : q.state = .retired) : q.exhaust = { q with thread := 0 } :=
  if_pos h

theorem NeedleRecord.exhaust_of_ne {q : NeedleRecord} (h : q.state ≠ .retired) :
    q.exhaust = { q with state := .threadOut, thread := 0, misses := 0, progress := 0, countdown := none } :=
  if_neg h

/-- The thread drawn is the advance by TF_b sixty-fourths, rounded up (R122). -/
theorem threadDrawn_eq {adv : Int} {factor c : Nat} (upper : min adv 1023 * factor ≤ 64 * c)
    (lower : 64 * ((c : Int) - 1) < min adv 1023 * factor) : threadDrawn adv factor = c := by
  unfold threadDrawn
  omega

/-! ### Consumption by the needles of a frame -/

/-- Whether what consumption finds raises a sticky source (R123, R124). -/
def DrawFinding.raises (f : DrawFinding) : Sticky → Bool
  | .threadLow => f.low
  | .threadOut => f.exhausted
  | _ => false

theorem DrawFinding.raises_of_ne (f : DrawFinding) {e : Sticky} (low : e ≠ .threadLow) (out : e ≠ .threadOut) :
    f.raises e = false := by
  cases e
  case threadLow => exact absurd rfl low
  case threadOut => exact absurd rfl out
  all_goals rfl

/-- What consumption finds in a needle (R122). -/
def State.drawing (s : State) (b : Bar) (c : Nat) (n : NeedleNo) : DrawFinding :=
  drawThread s.params.threadReserve c (s.needle b n)

/-- One needle's finding written back, with the events it raises (R122, R123, R124). -/
def State.applyDraw (s : State) (b : Bar) (n : NeedleNo) (f : DrawFinding) : State :=
  ((s.setNeedle b n f.record).raiseIf f.low .threadLow (some (.needle b n))).raiseIf f.exhausted .threadOut
    (some (.needle b n))

theorem drawNeedle_eq (c : Nat) (a : State × Bool) (n : NeedleNo) : drawNeedle b c a n
    = (a.1.applyDraw b n (a.1.drawing b c n), a.2 || (a.1.drawing b c n).exhausted) := rfl

theorem State.needle_applyDraw (d : Bar) (n m : NeedleNo) (f : DrawFinding) :
    (s.applyDraw b n f).needle d m = if d = b ∧ m = n then f.record else s.needle d m := by
  rw [← State.needle_setNeedle]
  simp [State.needle, State.applyDraw]

theorem State.event_applyDraw (n : NeedleNo) (f : DrawFinding) (e : Sticky) : (s.applyDraw b n f).event e
    = if f.raises e then raised (s.event e) (.needle b n) else s.event e := by
  have unset : (s.setNeedle b n f.record).event = s.event := rfl
  rw [State.applyDraw, State.event_raiseIf, State.event_raiseIf, State.event_raiseIf, unset]
  cases e <;> simp [DrawFinding.raises] <;> rfl

theorem State.drawing_applyDraw_of_ne {c : Nat} {n m : NeedleNo} (h : m ≠ n) (f : DrawFinding) :
    (s.applyDraw b n f).drawing b c m = s.drawing b c m := by
  have params : (s.applyDraw b n f).params = s.params := by simp [State.applyDraw]
  rw [State.drawing, params, State.needle_applyDraw, if_neg fun both => h both.2, State.drawing]

/-- A finding for each needle of a list written back, one after the other. -/
def State.applyDraws (s : State) (b : Bar) (f : NeedleNo → DrawFinding) (ns : List NeedleNo) : State :=
  ns.foldl (fun t n => t.applyDraw b n (f n)) s

/-- Needles drawn one after the other, each once, are found as they were before the notice (R122). -/
theorem drawNeedles_eq {c : Nat} {f : NeedleNo → DrawFinding} {ns : List NeedleNo} (hns : ns.Nodup) (a : State × Bool)
    (hf : ∀ n ∈ ns, a.1.drawing b c n = f n) :
    ns.foldl (drawNeedle b c) a = (a.1.applyDraws b f ns, a.2 || ns.any (fun n => (f n).exhausted)) := by
  induction ns generalizing a with
  | nil => simp [State.applyDraws]
  | cons n ns ih =>
    obtain ⟨fresh, hns⟩ := List.nodup_cons.mp hns
    have first : a.1.drawing b c n = f n := hf n List.mem_cons_self
    have later : ∀ m ∈ ns, (a.1.applyDraw b n (f n)).drawing b c m = f m := fun m hm =>
      (State.drawing_applyDraw_of_ne (ne_of_mem_of_not_mem hm fresh) _).trans (hf m (List.mem_cons_of_mem _ hm))
    rw [List.foldl_cons, drawNeedle_eq, first, ih hns _ later, List.any_cons, Bool.or_assoc]
    rfl

theorem State.needle_applyDraws (f : NeedleNo → DrawFinding) (ns : List NeedleNo) (d : Bar) (m : NeedleNo) :
    (s.applyDraws b f ns).needle d m = if d = b ∧ m ∈ ns then (f m).record else s.needle d m := by
  induction ns generalizing s with
  | nil => simp [State.applyDraws]
  | cons n ns ih =>
    have rest : s.applyDraws b f (n :: ns) = (s.applyDraw b n (f n)).applyDraws b f ns := rfl
    rw [rest, ih, State.needle_applyDraw]
    by_cases hm : m = n
    · subst hm
      grind
    · simp [hm]

theorem State.event_applyDraws (f : NeedleNo → DrawFinding) (ns : List NeedleNo) (e : Sticky) :
    (s.applyDraws b f ns).event e
      = (ns.filter (fun n => (f n).raises e)).foldl (fun slot n => raised slot (.needle b n)) (s.event e) := by
  rw [List.foldl_filter]
  exact (List.foldl_hom (State.event · e) fun t n => (State.event_applyDraw n (f n) e).symm).symm

/-! ### Consumption notices -/

/-- The state with a notice's needles drawn, before a notice of its own (R122). -/
def State.drawn (s : State) (m : ConsumptionNotice) (c : Nat) : State :=
  s.applyDraws m.bar (s.drawing m.bar c) (members m.frame)

theorem State.drawn_frame (s : State) (m : ConsumptionNotice) (c : Nat) :
    s.drawn m c = { s with needles := (s.drawn m c).needles, events := (s.drawn m c).events } := by
  obtain ⟨nd, ev, h⟩ := drawNeedle_frame m.bar c (members m.frame) (s, false)
  rw [drawNeedles_eq (members_nodup m.frame) _ fun _ _ => rfl] at h
  have frame : s.drawn m c = { s with needles := nd, events := ev } := h
  rw [frame]

theorem State.takeConsumption_eq {m : ConsumptionNotice} {c : Nat}
    (drawn : threadDrawn m.advance (s.params.threadFactor.get m.bar) = c) : s.takeConsumption m
      = if (members m.frame).any (fun n => (s.drawing m.bar c n).exhausted) then
          (s.drawn m c).sendMonitorNotice m.bar m.panel .threadOut
        else s.drawn m c := by
  unfold State.takeConsumption
  dsimp only
  rw [drawn, drawNeedles_eq (members_nodup _) _ fun _ _ => rfl, Bool.false_or]
  rfl

/-- A notice is taken as its draws, with a notice of the monitor sent besides when a thread ran out (R122, R125). -/
theorem State.takeConsumption_frame {m : ConsumptionNotice} {c : Nat}
    (drawn : threadDrawn m.advance (s.params.threadFactor.get m.bar) = c) : s.takeConsumption m
      = { s with
        needles := (s.drawn m c).needles
        events := (s.drawn m c).events
        messages := (s.takeConsumption m).messages } := by
  rw [State.takeConsumption_eq drawn, State.drawn_frame]
  split
  · cases m.panel <;> rfl
  · rfl

theorem State.needle_drawn (m : ConsumptionNotice) (c : Nat) (d : Bar) (n : NeedleNo) : (s.drawn m c).needle d n
    = if d = m.bar ∧ m.frame.getLsbD n.val = true then (s.drawing m.bar c n).record else s.needle d n := by
  rw [State.drawn, State.needle_applyDraws]
  simp only [mem_members]

/-- A source is raised once for each needle of the frame whose finding raises it, in ascending order (R122). -/
theorem State.drawn_raisedFor (m : ConsumptionNotice) (c : Nat) (e : Sticky) :
    (s.event e).RaisedFor ((s.drawn m c).event e) m.bar
      (fun n => m.frame.getLsbD n.val = true ∧ (s.drawing m.bar c n).raises e = true) := by
  refine ⟨(members m.frame).filter fun n => (s.drawing m.bar c n).raises e, (members_ascending m.frame).filter _,
    fun n => ?_, State.event_applyDraws _ _ e⟩
  rw [List.mem_filter, mem_members]

theorem State.takeConsumption_messages_of_none {m : ConsumptionNotice} {c : Nat}
    (drawn : threadDrawn m.advance (s.params.threadFactor.get m.bar) = c)
    (none_ : ∀ n, m.frame.getLsbD n.val = true → (s.drawing m.bar c n).exhausted = false) :
    (s.takeConsumption m).messages = s.messages := by
  have quiet : (members m.frame).any (fun n => (s.drawing m.bar c n).exhausted) = false :=
    List.any_eq_false.mpr fun n hn => by simp [none_ n (mem_members.mp hn)]
  rw [State.takeConsumption_eq drawn, quiet, State.drawn_frame]
  rfl

/-- When any thread ran out, one THREAD_OUT notice is sent, with Y as W stands (R125). -/
theorem State.takeConsumption_messages_of_out {m : ConsumptionNotice} {c : Nat} {n : NeedleNo} {head : Word}
    (drawn : threadDrawn m.advance (s.params.threadFactor.get m.bar) = c)
    (hn : m.frame.getLsbD n.val = true) (out : (s.drawing m.bar c n).exhausted = true) (panel : m.panel = some head) :
    (s.takeConsumption m).messages
      = s.messages ++ [.notice ⟨m.bar, head, DefectKind.threadOut.bit, s.yAt m.bar head⟩] := by
  have some_ : (members m.frame).any (fun n => (s.drawing m.bar c n).exhausted) = true :=
    List.any_eq_true.mpr ⟨n, mem_members.mpr hn, out⟩
  rw [State.takeConsumption_eq drawn, some_, State.drawn_frame, panel]
  rfl

/-- Settles O43: each needle by what consumption finds in it before the notice. -/
theorem threadConsumed : Obligations.ThreadConsumed := by
  unfold Obligations.ThreadConsumed
  intro s m c operates _ _ upper lower reserve drawn out
  have taken : exec (.consumptionNotice m) s = .next ((s.removeMessage (.consumption m)).takeConsumption m) :=
    (exec_consumptionNotice m s).trans (arrival_next operates _)
  obtain ⟨u, hu⟩ : ∃ u, u = s.removeMessage (.consumption m) := ⟨_, rfl⟩
  have same : u.needle = s.needle ∧ u.event = s.event ∧ u.params = s.params ∧ u.yAt = s.yAt
      ∧ u.messages = s.messages.erase (.consumption m) := by
    subst hu
    exact ⟨rfl, rfl, rfl, rfl, rfl⟩
  obtain ⟨needles, events, params, yAt, messages⟩ := same
  have count : threadDrawn m.advance (u.params.threadFactor.get m.bar) = c := by
    rw [params]
    exact threadDrawn_eq upper lower
  have frame := State.takeConsumption_frame count
  have drawing (n : NeedleNo) : u.drawing m.bar c n = drawThread reserve c (s.needle m.bar n) := by
    rw [State.drawing, needles, params]
  have exhausted (n : NeedleNo) : m.frame.getLsbD n.val = true ∧ (u.drawing m.bar c n).exhausted = true ↔ out n := by
    rw [drawing, drawThread_exhausted_iff, ← and_assoc]
  have low (n : NeedleNo) : m.frame.getLsbD n.val = true ∧ (u.drawing m.bar c n).low = true ↔ drawn n
      ∧ (s.needle m.bar n).lowWarned = false ∧ ((s.needle m.bar n).thread : Int) - c ≤ reserve := by
    rw [drawing, drawThread_low_iff, ← and_assoc]
  have needle (b : Bar) (n : NeedleNo) : (u.takeConsumption m).needle b n = _ :=
    (congrArg (State.needle · b n) frame).trans (u.needle_drawn m c b n)
  have event (e : Sticky) : (u.takeConsumption m).event e = (u.drawn m c).event e := by
    have same := congrArg (State.event · e) frame
    exact same
  have raisedFor (e : Sticky) := u.drawn_raisedFor m c e
  simp only [events, ← event] at raisedFor
  rw [← hu] at taken
  refine ⟨_, taken, ?_, fun b n other => ?_, fun n => ?_, fun none_ => ?_, fun n h ran panel => ?_,
    (raisedFor .threadOut).congr exhausted, (raisedFor .threadLow).congr low, fun e notLow notOut =>
      (raisedFor e).eq_of_none fun n h => ?_⟩
  · rw [frame, hu]
    rfl
  · rw [needle, if_neg fun h => other h.1, needles]
  · intro q
    have found (h : drawn n) : (u.takeConsumption m).needle m.bar n = (drawThread reserve c q).record := by
      rw [needle, if_pos ⟨rfl, h.1⟩, drawing]
    refine ⟨fun dry => ?_, fun h more => ?_, fun h retired => ?_, fun h other => ?_⟩
    · by_cases hn : m.frame.getLsbD n.val = true
      · have empty : q.thread = 0 := Nat.eq_zero_of_not_pos fun h => dry ⟨hn, h⟩
        rw [needle, if_pos ⟨rfl, hn⟩, drawing, drawThread_empty empty]
      · rw [needle, if_neg fun h => hn h.2, needles]
    · rw [found h, drawThread_more more]
    · rw [found h.1, drawThread_out h.1.2 h.2, NeedleRecord.exhaust_of_retired retired]
    · rw [found h.1, drawThread_out h.1.2 h.2, NeedleRecord.exhaust_of_ne other]
  · rw [← messages]
    refine State.takeConsumption_messages_of_none count fun n hn => ?_
    exact Bool.eq_false_iff.mpr fun h => none_ n ((exhausted n).mp ⟨hn, h⟩)
  · rw [← messages, ← yAt]
    obtain ⟨hn, hx⟩ := (exhausted n).mpr ran
    exact State.takeConsumption_messages_of_out count hn hx panel
  · rw [DrawFinding.raises_of_ne _ notLow notOut] at h
    exact absurd h.2 Bool.false_ne_true

end Sys2Proof.Machine
end

section
/-! PROOF. The stroke event of a bar as it arrives: the pulse taken, what is fixed before the panel is located, and what
the part hands on (R8 to R10, R62, R88, R92, R95, R171). -/

namespace Sys2Proof.Machine

variable {s : State} {b : Bar}

/-! ### The pulse -/

/-- The state with the stroke event of a bar taken of the pulse that is due to it or rises (R171). -/
def State.pulseTaken (s : State) (b : Bar) : State := { s with
  inputs := { s.inputs with stroke := s.inputs.stroke || s.strokesDue.get b == 0 }
  strokesDue := if s.strokesDue.get b = 0 then (s.strokesDue.map (· + 1)).set b 0
    else s.strokesDue.set b (s.strokesDue.get b - 1) }

theorem State.strokeEvent_arrives (h : s.StrokeArrives b) :
    s.strokeEvent b = ((s.pulseTaken b).flush b).evaluateStroke b := by
  unfold State.strokeEvent
  by_cases due : s.strokesDue.get b = 0
  · have low : s.inputs.stroke = false := h.2.resolve_left (absurd due)
    simp [due, State.strokeEdge, low, State.takeStroke, State.setStroke, State.pulseTaken]
  · have level : (s.inputs.stroke || s.strokesDue.get b == 0) = s.inputs.stroke := by
      rw [beq_eq_false_iff_ne.mpr due, Bool.or_false]
    rw [State.pulseTaken, level]
    simp [due, State.takeStroke]

/-- A stroke event that arrives takes the bar's messages, and then evaluates the stroke (R89, R171). -/
theorem exec_strokeEvent_arrives (h : s.StrokeArrives b) :
    exec (.strokeEvent b) s = .next (((s.pulseTaken b).flush b).evaluateStroke b) := by
  rw [exec_strokeEvent, execStrokeEvent, if_pos h.1, State.strokeEvent_arrives h]

theorem State.flush_alone (h : ∀ m ∈ s.messages, m.sentBy b = false) : s.flush b = s := by
  have none_ : s.messages.filter (Message.sentBy b) = [] :=
    List.filter_eq_nil_iff.mpr fun m hm => by simp [h m hm]
  unfold State.flush
  rw [none_]

/-- With none of the bar's messages in flight the stroke is evaluated as the pulse leaves the state. -/
theorem exec_strokeEvent_alone (h : s.StrokesAlone b) :
    exec (.strokeEvent b) s = .next ((s.pulseTaken b).evaluateStroke b) := by
  rw [exec_strokeEvent_arrives h.1, State.flush_alone (s := s.pulseTaken b) h.2]

/-- Without an edge nothing happens (R171). -/
theorem exec_strokeEvent_quiet (operates : s.inputs.operates = true) (h : ¬ s.StrokeArrives b) :
    exec (.strokeEvent b) s = .next s := by
  have quiet : s.strokesDue.get b = 0 ∧ s.inputs.stroke = true := by
    simpa [State.StrokeArrives, operates] using h
  rw [exec_strokeEvent, execStrokeEvent, if_pos operates]
  unfold State.strokeEvent State.strokeEdge
  simp [quiet]

theorem State.evaluateStroke_other {c : Bar} (h : c ≠ b) : (s.evaluateStroke b).bars.get c = s.bars.get c := by
  simp [State.evaluateStroke, PerBar.get_set_of_ne _ _ h]

/-! ### The class of the stroke -/

theorem classOf_eq (p : Params) (d : Int) : classOf p d
    = if d < 0 then .reverse else if d < p.slMin then .stall else if d ≤ p.slMax then .normal else .long := rfl

theorem classify_none {p : Params} {w : Word} {r : Reference} (h : r.last = none) : classify p w r = ⟨some w, .stall, 0⟩ := by
  rw [classify, h]

theorem classify_some {p : Params} {w last : Word} {r : Reference} (h : r.last = some last) : classify p w r
    = ⟨some (if webDist w last ≤ 0 then last else w), classOf p (webDist w last), webDist w last⟩ := by
  rw [classify, h]
  dsimp only
  split <;> rfl

/-- The class is NORMAL or LONG exactly at an advance of SL_MIN or more (R9, R10). -/
theorem State.strokeOf_forward (s : State) (b : Bar) : (s.strokeOf b).strokeClass.forward = true ↔ s.ForwardNext b := by
  have fixed : (s.strokeOf b).strokeClass = (classify s.params s.w (s.bars.get b).reference).strokeClass := rfl
  rw [fixed]
  cases last : (s.bars.get b).reference.last with
  | none =>
    rw [classify_none last]
    exact iff_of_false (by simp [StrokeClass.forward]) fun ⟨adv, ⟨w, hw, _⟩, _⟩ => by rw [last] at hw; cases hw
  | some w =>
    rw [classify_some last]
    have forward (d : Int) : (classOf s.params d).forward = true ↔ (s.params.slMin : Int) ≤ d := by
      unfold classOf StrokeClass.forward
      split_ifs <;> simp <;> omega
    rw [forward]
    constructor
    · exact fun h => ⟨_, ⟨w, last, rfl⟩, h⟩
    · rintro ⟨adv, ⟨w', hw, rfl⟩, h⟩
      rw [last, Option.some.injEq] at hw
      exact hw ▸ h

theorem State.strokeOf_long (s : State) (b : Bar) : (s.strokeOf b).strokeClass = .long ↔ s.LongNext b := by
  have fixed : (s.strokeOf b).strokeClass = (classify s.params s.w (s.bars.get b).reference).strokeClass := rfl
  rw [fixed]
  cases last : (s.bars.get b).reference.last with
  | none =>
    rw [classify_none last]
    exact iff_of_false nofun fun ⟨adv, ⟨w, hw, _⟩, _⟩ => by rw [last] at hw; cases hw
  | some w =>
    rw [classify_some last]
    have long (d : Int) : classOf s.params d = .long ↔ 0 ≤ d ∧ (s.params.slMin : Int) ≤ d ∧ (s.params.slMax : Int) < d := by
      unfold classOf
      split_ifs <;> simp <;> omega
    rw [long]
    constructor
    · exact fun h => ⟨_, ⟨w, last, rfl⟩, h⟩
    · rintro ⟨adv, ⟨w', hw, rfl⟩, h⟩
      rw [last, Option.some.injEq] at hw
      exact hw ▸ h

/-- Settles O31. -/
theorem strokeIsClassified : Obligations.StrokeIsClassified := by
  unfold Obligations.StrokeIsClassified
  intro s b operates
  refine ⟨fun arrives => ⟨_, exec_strokeEvent_arrives arrives, ?_, fun c other => ?_, fun first => ?_, fun last h => ?_,
    ?_, fun c => ?_⟩, exec_strokeEvent_quiet operates⟩
  · exact State.ext_fields (by simp [State.pulseTaken]) rfl (by simp [State.pulseTaken]) (by simp [State.pulseTaken])
      (by simp [State.pulseTaken]) rfl (by simp [State.pulseTaken]) rfl rfl rfl rfl (by simp [State.pulseTaken])
      (by simp [State.pulseTaken]) rfl rfl rfl
  · rw [State.evaluateStroke_other other, State.flush_bars]
    rfl
  · rw [State.evaluateStroke_bar, State.flush_params, State.flush_w, State.flush_bars]
    exact classify_none first
  · rw [State.evaluateStroke_bar, State.flush_params, State.flush_w, State.flush_bars]
    exact classify_some h
  · rw [State.evaluateStroke_inputs, State.flush_inputs]
    rfl
  · rw [State.evaluateStroke_strokesDue, State.flush_strokesDue, State.pulseTaken]
    by_cases due : s.strokesDue.get b = 0
    · simp only [due, if_true, PerBar.get_set, PerBar.get_map]
    · simp only [due, if_false, PerBar.get_set]
      split
      · subst_vars
        rfl
      · rfl

end Sys2Proof.Machine
end

section
/-! PROOF. What the stages of a stroke tell and note, stage by stage, and how it reaches the messages the stroke sends
(R64 to R71, R78, R79, R82, R83, R86, R88). -/

namespace Sys2Proof.Machine

/-! ### Notes -/

/-- A kind is noted on the panel of a head (R88). -/
def Noted (notes : List (Word × DefectSet)) (h : Word) (d : DefectKind) : Prop :=
  ∃ kinds, (h, kinds) ∈ notes ∧ kinds.getLsbD d.number = true

theorem DefectKind.number_inj {d e : DefectKind} : d.number = e.number ↔ d = e := by
  cases d <;> cases e <;> decide

/-- Noting a kind on a panel adds that kind on that panel, and keeps every other. -/
theorem noted_addNote {h head : Word} {d kind : DefectKind} {notes : List (Word × DefectSet)} :
    Noted (addNote head kind.bit notes) h d ↔ Noted notes h d ∨ h = head ∧ d = kind := by
  have bit (d : DefectKind) : kind.bit.getLsbD d.number = true ↔ d = kind :=
    (kind.getLsbD_bit d.number).trans DefectKind.number_inj
  have cons (x : Word × DefectSet) (rest : List (Word × DefectSet)) :
      Noted (x :: rest) h d ↔ h = x.1 ∧ x.2.getLsbD d.number = true ∨ Noted rest h d := by
    simp only [Noted, List.mem_cons, or_and_right, exists_or, Prod.ext_iff]
    refine or_congr ⟨fun ⟨_, ⟨same, rfl⟩, set_⟩ => ⟨same, set_⟩, fun ⟨same, set_⟩ => ⟨_, ⟨same, rfl⟩, set_⟩⟩ Iff.rfl
  induction notes with
  | nil =>
    rw [addNote, cons, bit]
    simp [Noted]
  | cons x rest ih =>
    obtain ⟨head', kinds⟩ := x
    rw [addNote]
    split
    · rename_i same
      rw [cons, cons, same, BitVec.getLsbD_or, Bool.or_eq_true, bit]
      tauto
    · rw [cons, cons]
      exact (or_congr_right ih).trans or_assoc.symm

/-- Noting a kind keeps one set for each panel (R88). -/
theorem addNote_nodup {head : Word} {kinds : DefectSet} {notes : List (Word × DefectSet)}
    (h : (notes.map Prod.fst).Nodup) : ((addNote head kinds notes).map Prod.fst).Nodup := by
  have heads (l : List (Word × DefectSet)) : ∀ x, x ∈ (addNote head kinds l).map Prod.fst ↔ x ∈ l.map Prod.fst ∨ x = head := by
    induction l with
    | nil => simp [addNote]
    | cons y rest ih =>
      intro x
      rw [addNote]
      split
      · rename_i same
        simp [← same]
        tauto
      · rw [List.map_cons, List.mem_cons, ih, List.map_cons, List.mem_cons, or_assoc]
  induction notes with
  | nil => simp [addNote]
  | cons y rest ih =>
    rw [List.map_cons, List.nodup_cons] at h
    rw [addNote]
    split
    · exact List.nodup_cons.mpr h
    · rename_i other
      refine List.nodup_cons.mpr ⟨?_, ih h.2⟩
      rw [heads, not_or]
      exact ⟨h.1, other⟩

section

variable {k : Stroke} {w : Work} {r : PanelRecord} {h : Word} {d : DefectKind} {m : StatusMessage}

theorem Work.noted_note (c : Bool) (head : Word) (kind : DefectKind) :
    Noted (w.note c head kind).notes h d ↔ Noted w.notes h d ∨ c = true ∧ h = head ∧ d = kind := by
  unfold Work.note
  split
  · rename_i set_
    simp [noted_addNote, set_]
  · rename_i unset
    simp [unset]

@[simp] theorem Work.mem_tell (b : Bar) (head : Word) (news : StatusNews) :
    m ∈ (w.tell b head news).news ↔ m ∈ w.news ∨ m = ⟨b, head, news⟩ := by
  simp [Work.tell]

/-! ### Leaving a panel -/

/-- What a bar tells a panel that it leaves (R69). -/
def Stroke.TellsOn (k : Stroke) (r : PanelRecord) (q : Place) (m : StatusMessage) : Prop :=
  (k.panelBar r).pattern ≠ none ∧ q.stoppedInPanel = false
    ∧ m = ⟨k.bar, r.head, if k.reachedEnd r q then .done else .short⟩

/-- What a bar notes on a panel that it leaves (R69, R79). -/
def Stroke.NotesOn (k : Stroke) (r : PanelRecord) (q : Place) (h : Word) (d : DefectKind) : Prop :=
  (k.panelBar r).pattern ≠ none ∧ h = r.head
    ∧ (d = .barShort ∧ q.stoppedInPanel = false ∧ k.reachedEnd r q = false ∨ d = .tieShort ∧ k.tieShort r q = true)

theorem Stroke.judge_news : m ∈ (k.judge r w).news ↔ m ∈ w.news ∨ k.TellsOn r w.place m := by
  unfold Stroke.judge Stroke.TellsOn
  dsimp only
  split_ifs <;> simp_all

theorem Stroke.judge_noted : Noted (k.judge r w).notes h d ↔ Noted w.notes h d ∨ k.NotesOn r w.place h d := by
  unfold Stroke.judge Stroke.NotesOn
  dsimp only
  split_ifs <;> simp_all [Work.noted_note] <;> tauto

/-- The record that is found is the one there is. -/
theorem exists_found {α : Type} {o : Option α} {a : α} (found : o = some a) {P : α → Prop} :
    (∃ x, o = some x ∧ P x) ↔ P a := by
  subst found
  simp

theorem Stroke.leave_news {c : CurrentPanel} : m ∈ (k.leave c w).news
    ↔ m ∈ w.news ∨ ∃ r, k.state.findRecord c.head = some r ∧ k.TellsOn r w.place m := by
  unfold Stroke.leave
  dsimp only
  split
  · rename_i r found
    exact Stroke.judge_news.trans (or_congr_right (exists_found (P := fun r => k.TellsOn r w.place m) found).symm)
  · rename_i none_
    simp [none_]

theorem Stroke.leave_noted {c : CurrentPanel} : Noted (k.leave c w).notes h d
    ↔ Noted w.notes h d ∨ ∃ r, k.state.findRecord c.head = some r ∧ k.NotesOn r w.place h d := by
  unfold Stroke.leave
  dsimp only
  split
  · rename_i r found
    exact Stroke.judge_noted.trans (or_congr_right (exists_found (P := fun r => k.NotesOn r w.place h d) found).symm)
  · rename_i none_
    simp [none_]

/-! ### Stopping in a panel, entering it and staying -/

theorem Stroke.markStopped_news : m ∈ (k.markStopped r w).news ↔ m ∈ w.news ∨ k.running = false
    ∧ w.place.stoppedInPanel = false ∧ (k.panelBar r).pattern ≠ none ∧ m = ⟨k.bar, r.head, .short⟩ := by
  unfold Stroke.markStopped
  dsimp only
  cases running : k.running
  · cases stopped : w.place.stoppedInPanel
    · split_ifs <;> simp_all
    · simp
  · simp

theorem Stroke.markStopped_noted : Noted (k.markStopped r w).notes h d ↔ Noted w.notes h d ∨ k.running = false
    ∧ w.place.stoppedInPanel = false ∧ (k.panelBar r).pattern ≠ none ∧ h = r.head ∧ d = .barShort := by
  unfold Stroke.markStopped
  dsimp only
  cases running : k.running
  · cases stopped : w.place.stoppedInPanel
    · split_ifs <;> simp_all [Work.noted_note]
    · simp
  · simp

/-- The placement fields as entering a panel leaves them (R67). -/
def Stroke.entered (k : Stroke) (r : PanelRecord) (q : Place) : Place := { q with
  current := some ⟨r.head, .inside⟩
  stoppedInPanel := !k.running
  lastY := k.y r.head
  cursor := (k.panelBar r).pattern.map k.state.store.homeCursor
  ys := 0
  ps := 0
  lockCount := 0
  tail := .outside
  finished := false
  stack := []
  p := 0 }

theorem Stroke.enter_place : (k.enter r w).place = k.entered r w.place := by
  unfold Stroke.enter
  dsimp only
  rw [Stroke.markStopped_place]
  split <;> simp [Stroke.entered]

theorem Stroke.enter_located : (k.enter r w).located = some r := rfl

theorem Stroke.enter_news : m ∈ (k.enter r w).news ↔ m ∈ w.news ∨ (k.panelBar r).pattern ≠ none
    ∧ (k.running = true ∧ m = ⟨k.bar, r.head, .sewing⟩ ∨ k.running = false ∧ m = ⟨k.bar, r.head, .short⟩) := by
  unfold Stroke.enter
  dsimp only
  rw [Stroke.markStopped_news]
  cases running : k.running
  · simp
  · cases (k.panelBar r).pattern <;> simp

theorem Stroke.enter_noted : Noted (k.enter r w).notes h d ↔ Noted w.notes h d ∨ (k.panelBar r).pattern ≠ none
    ∧ k.running = false ∧ h = r.head ∧ d = .barShort := by
  unfold Stroke.enter
  dsimp only
  rw [Stroke.markStopped_noted]
  cases running : k.running
  · simp
  · cases (k.panelBar r).pattern <;> simp

theorem Stroke.stay_place : (k.stay r w).place = { w.place with
    lastY := max w.place.lastY (k.y r.head)
    stoppedInPanel := !k.running || w.place.stoppedInPanel } := by
  unfold Stroke.stay
  dsimp only
  rw [Stroke.markStopped_place]
  rfl

theorem Stroke.stay_located : (k.stay r w).located = some r := rfl

theorem Stroke.stay_news : m ∈ (k.stay r w).news ↔ m ∈ w.news ∨ k.running = false
    ∧ w.place.stoppedInPanel = false ∧ (k.panelBar r).pattern ≠ none ∧ m = ⟨k.bar, r.head, .short⟩ :=
  Stroke.markStopped_news

theorem Stroke.stay_noted : Noted (k.stay r w).notes h d ↔ Noted w.notes h d ∨ k.running = false
    ∧ w.place.stoppedInPanel = false ∧ (k.panelBar r).pattern ≠ none ∧ h = r.head ∧ d = .barShort :=
  Stroke.markStopped_noted

/-! ### The stroke by its kind -/

@[simp] theorem Stroke.tailStroke_news : (k.tailStroke r w).news = w.news := by
  unfold Stroke.tailStroke
  dsimp only
  split <;> rfl

@[simp] theorem Stroke.tailStroke_notes : (k.tailStroke r w).notes = w.notes := by
  unfold Stroke.tailStroke
  dsimp only
  split <;> rfl

@[simp] theorem Stroke.placed_news : (k.placed r w).news = w.news := by
  simp [Stroke.placed]

@[simp] theorem Stroke.walkStroke_news : (k.walkStroke r w).news = w.news := by
  unfold Stroke.walkStroke
  dsimp only
  split_ifs <;> simp

@[simp] theorem Stroke.placement_news : (k.placement r w).news = w.news := by
  unfold Stroke.placement
  dsimp only
  split_ifs <;> simp

/-- What a stroke does it tells nobody: only locating it does (R88). -/
@[simp] theorem Stroke.act_news : (k.act w).news = w.news := by
  unfold Stroke.act Stroke.runningStroke
  dsimp only
  split
  · split
    · rfl
    · split_ifs <;> simp
  · rfl

end

/-! ### What the stroke sends -/

section

variable {s : State} {b : Bar} {k : Stroke} {w : Work}

theorem Stroke.status_mem_messages (m : StatusMessage) : .status m ∈ k.messages w ↔ m ∈ w.news := by
  simp [Stroke.messages, Stroke.notices]

theorem Stroke.notice_mem_messages (n : DefectNotice) : .notice n ∈ k.messages w
    ↔ n.bar = k.bar ∧ (n.head, n.kinds) ∈ w.notes ∧ n.kinds ≠ 0 ∧ n.y = k.y n.head := by
  obtain ⟨bar, head, kinds, y⟩ := n
  have noticed : .notice ⟨bar, head, kinds, y⟩ ∈ k.notices w
      ↔ bar = k.bar ∧ (head, kinds) ∈ w.notes ∧ kinds ≠ 0 ∧ y = k.y head := by
    rw [Stroke.notices, List.mem_map]
    constructor
    · rintro ⟨⟨head', kinds'⟩, mem, same⟩
      obtain ⟨rfl, rfl, rfl, rfl⟩ := DefectNotice.mk.inj (Message.notice.inj same)
      obtain ⟨mem, nonzero⟩ := List.mem_filter.mp mem
      exact ⟨rfl, mem, of_decide_eq_true nonzero, rfl⟩
    · rintro ⟨rfl, mem, nonzero, rfl⟩
      exact ⟨(head, kinds), List.mem_filter.mpr ⟨mem, decide_eq_true nonzero⟩, rfl⟩
  have status : .notice ⟨bar, head, kinds, y⟩ ∉ w.news.map Message.status := by simp
  rw [Stroke.messages, List.mem_append, List.mem_append, List.mem_append, noticed]
  simp [status]

/-- SELECT_LATE is noted on the panel of the overtaken frame before the stroke is located (R107). -/
theorem State.start_noted (s : State) (b : Bar) (h : Word) (d : DefectKind) :
    Noted (s.strokeOf b).start.notes h d ↔ s.NotesLate b h d := by
  have fixed : (s.strokeOf b).start.notes = match (s.bars.get b).control.transfer with
      | some ⟨_, some h⟩ => [(h, DefectKind.selectLate.bit)]
      | _ => [] := rfl
  have bit : DefectKind.selectLate.bit.getLsbD d.number = true ↔ d = .selectLate :=
    (DefectKind.getLsbD_bit _ _).trans DefectKind.number_inj
  rw [fixed, State.NotesLate]
  rcases (s.bars.get b).control.transfer with _ | ⟨needles, _ | head⟩
  · simp [Noted]
  · simp [Noted]
  · constructor
    · rintro ⟨kinds, mem, set_⟩
      obtain ⟨rfl, rfl⟩ := Prod.mk.inj (List.mem_singleton.mp mem)
      exact ⟨bit.mp set_, _, rfl, rfl⟩
    · rintro ⟨late, f, frame, panel⟩
      cases frame
      cases panel
      exact ⟨_, List.mem_singleton_self _, bit.mpr late⟩

/-- The stroke sends the status messages told and a notice for each panel noted, and no more of them (R88). -/
theorem State.evaluateStroke_sends {told : StatusMessage → Prop} {noted : Word → DefectKind → Prop}
    (news : ∀ m, m ∈ (s.strokeOf b).finish.news ↔ told m)
    (notes : ∀ h d, Noted (s.strokeOf b).finish.notes h d ↔ noted h d) : s.Sends (s.evaluateStroke b) b told noted := by
  have sent : (s.evaluateStroke b).messages.drop s.messages.length
      = (s.strokeOf b).messages (s.strokeOf b).finish := by
    rw [State.evaluateStroke_messages, List.drop_left]
  refine ⟨fun m => ?_, fun h d => ?_⟩
  · rw [sent, Stroke.status_mem_messages]
    exact news m
  · rw [State.Notes, ← notes, Noted, sent]
    refine exists_congr fun kinds => ?_
    rw [Stroke.notice_mem_messages]
    constructor
    · exact fun ⟨⟨_, mem, _, _⟩, set_⟩ => ⟨mem, set_⟩
    · refine fun ⟨mem, set_⟩ => ⟨⟨rfl, mem, fun zero => ?_, rfl⟩, set_⟩
      rw [show kinds = 0 from zero] at set_
      simp at set_

end

end Sys2Proof.Machine
end

section
/-! PROOF. Locating the stroke in the terms of the statements, and the gap stroke: whether a bar leaves its panel, and
what it tells and notes then (R64, R65, R69, R79, R92, R95). -/

namespace Sys2Proof.Machine

variable {s : State} {b : Bar} {k : Stroke} {w : Work} {r : PanelRecord}

/-! ### What a stroke has fixed -/

/-- The stroke runs exactly when no halt reason stands and a run is taken or goes on (R92, R95). -/
theorem strokeRuns_iff (s : State) (b : Bar) :
    strokeRuns s.inputs b (s.bars.get b).control = true ↔ s.RunsNext b := by
  have latched (l : Latched) : l.any = false ↔ l = ⟨false, false, false, false⟩ := by
    obtain ⟨select, defect, encoder, link⟩ := l
    simp [Latched.any, and_assoc]
  unfold strokeRuns State.RunsNext
  simp only [haltReasons, HaltReasons.any, HaltReasons.beyondRequested, Control.applyStaged, Bool.and_eq_true,
    Bool.not_eq_true', Bool.or_eq_false_iff, Bool.or_eq_true, decide_eq_true_eq, latched, and_assoc]
  refine and_congr_right fun _ => and_congr_right fun _ => and_congr_right fun _ => ?_
  rcases (s.bars.get b).control.pendingRun with _ | (_ | _) <;> simp

theorem State.strokeOf_running (s : State) (b : Bar) : (s.strokeOf b).running = true ↔ s.RunsNext b := strokeRuns_iff s b

theorem State.strokeOf_stopped (s : State) (b : Bar) : (s.strokeOf b).running = false ↔ ¬ s.RunsNext b := by
  rw [← State.strokeOf_running, Bool.not_eq_true]

/-- The record found under a head is the first of that head in the queue. -/
theorem State.findRecord_iff {h : Word} :
    s.findRecord h = some r ↔ r.head = h ∧ ∃ pre post, s.Holds (·.head) pre r post := by
  rw [State.findRecord, List.find?_eq_some_iff_append]
  simp only [decide_eq_true_eq, Bool.not_eq_true', decide_eq_false_iff_not, State.Holds]
  refine and_congr_right fun same => ?_
  rw [same]

/-- The covering panel of the stroke is the one that covers the bar's line (R64). -/
theorem State.strokeOf_covering (s : State) (b : Bar) : (s.strokeOf b).covering = some r ↔ s.Covers b r := by
  have within (q : PanelRecord) : (decide (0 ≤ (s.strokeOf b).y q.head) && decide ((s.strokeOf b).y q.head < q.length)) = true
      ↔ s.Over b q := by
    rw [Bool.and_eq_true, decide_eq_true_eq, decide_eq_true_eq]
    rfl
  rw [Stroke.covering, List.find?_eq_some_iff_append, within]
  simp only [Bool.not_eq_true', ← Bool.not_eq_true, within, State.Covers]
  constructor
  · exact fun ⟨lies, pre, post, table, first⟩ => ⟨pre, post, table, lies, first⟩
  · exact fun ⟨pre, post, table, lies, first⟩ => ⟨lies, pre, post, table, first⟩

/-! ### Leaving a panel -/

/-- The set under the cursor is the one the entry there names (R77). -/
theorem State.tieSet_iff (s : State) (b : Bar) (set : NeedleSet) :
    s.TieSet b set ↔ set = s.store.namedSet (s.store.under (s.bars.get b).place.cursor) := by
  unfold State.TieSet
  cases cursor : (s.bars.get b).place.cursor with
  | none => simp [Store.under, Store.namedSet]
  | some c =>
    rw [Store.under_some]
    cases entry : s.store.entry (c.page, c.index) <;> simp [Store.namedSet, entry]

theorem lockCutOff_iff (s : State) (b : Bar) (n : Nat) :
    lockCutOff (s.store.under (s.bars.get b).place.cursor) n = true
      ↔ ∃ c segment m a, (s.bars.get b).place.cursor = some c ∧ s.store.entry (c.page, c.index) = .lock segment m a
        ∧ 1 ≤ n ∧ n < m := by
  cases cursor : (s.bars.get b).place.cursor with
  | none => simp [Store.under, lockCutOff]
  | some c =>
    rw [Store.under_some]
    cases entry : s.store.entry (c.page, c.index) <;> simp [lockCutOff, entry, Nat.succ_le_iff]

/-- The tie is cut short at leaving a panel as R79 says. -/
theorem State.tieShort_iff (s : State) (b : Bar) (r : PanelRecord) :
    (s.strokeOf b).tieShort r (s.bars.get b).place = true ↔ s.TieCut b r := by
  have set_ : (∃ set, s.TieSet b set ∧ set ≠ 0)
      ↔ s.store.namedSet (s.store.under (s.bars.get b).place.cursor) ≠ 0 := by
    simp only [State.tieSet_iff, exists_eq_left]
  have done (t : TailState) : t.done = match t with
      | .outside => 0
      | .tie done => done := by cases t <;> rfl
  have fixed : (s.strokeOf b).tieShort r (s.bars.get b).place = (!r.aborted
      && (lockCutOff (s.store.under (s.bars.get b).place.cursor) (s.bars.get b).place.lockCount
        || (decide (0 < r.tailMargin) && decide (0 < s.params.tailTie)
          && s.store.namedSet (s.store.under (s.bars.get b).place.cursor) != 0
          && decide ((s.bars.get b).place.tail.done < s.params.tailTie)))) := rfl
  rw [fixed, State.TieCut, Bool.and_eq_true, Bool.not_eq_true', Bool.or_eq_true, lockCutOff_iff, set_]
  simp only [Bool.and_eq_true, decide_eq_true_eq, bne_iff_ne, done, Nat.succ_le_iff, and_assoc] <;> rfl

/-- What the bar tells the panel it is in when it leaves it (R69). -/
theorem State.tellsLeaving_iff {h : Word} (current : (s.bars.get b).place.current = some ⟨h, .inside⟩)
    (m : StatusMessage) : s.TellsLeaving b m
      ↔ ∃ r, s.findRecord h = some r ∧ (s.strokeOf b).TellsOn r (s.bars.get b).place m := by
  have fixed (r : PanelRecord) : (s.strokeOf b).TellsOn r (s.bars.get b).place m ↔ (r.bars.get b).pattern ≠ none
      ∧ (s.bars.get b).place.stoppedInPanel = false
      ∧ m = ⟨b, r.head, if (r.length : Int) - s.params.slMax ≤ (s.bars.get b).place.lastY then .done else .short⟩ := by
    unfold Stroke.TellsOn Stroke.reachedEnd
    simp only [decide_eq_true_eq]
    rfl
  unfold State.TellsLeaving State.InPanel
  refine exists_congr fun r => ?_
  rw [fixed, State.findRecord_iff, current]
  simp only [Option.some.injEq, CurrentPanel.mk.injEq, and_true, eq_comm (a := h)]

/-- What the bar notes on the panel it is in when it leaves it (R69, R79). -/
theorem State.notesLeaving_iff {h : Word} (current : (s.bars.get b).place.current = some ⟨h, .inside⟩) (head : Word)
    (d : DefectKind) : s.NotesLeaving b head d
      ↔ ∃ r, s.findRecord h = some r ∧ (s.strokeOf b).NotesOn r (s.bars.get b).place head d := by
  have fixed (r : PanelRecord) : (s.strokeOf b).NotesOn r (s.bars.get b).place head d ↔ (r.bars.get b).pattern ≠ none
      ∧ head = r.head ∧ (d = .barShort ∧ (s.bars.get b).place.stoppedInPanel = false
        ∧ (s.bars.get b).place.lastY < (r.length : Int) - s.params.slMax ∨ d = .tieShort ∧ s.TieCut b r) := by
    unfold Stroke.NotesOn Stroke.reachedEnd
    rw [State.tieShort_iff]
    simp only [decide_eq_false_iff_not, not_le]
    rfl
  unfold State.NotesLeaving State.InPanel
  refine exists_congr fun r => ?_
  rw [fixed, State.findRecord_iff, current]
  simp only [Option.some.injEq, CurrentPanel.mk.injEq, and_true, eq_comm (a := h), eq_comm (a := head)]
  tauto

/-- A bar that is in no panel leaves none. -/
theorem State.not_inPanel (out : ∀ h, (s.bars.get b).place.current ≠ some ⟨h, .inside⟩) (r : PanelRecord) :
    ¬ s.InPanel b r := fun inside => out _ inside.1

/-! ### The gap stroke -/

theorem Stroke.gap_of_out (out : ∀ h, w.place.current ≠ some ⟨h, .inside⟩) : k.gap w = w := by
  unfold Stroke.gap
  split
  · rfl
  · rename_i c current
    obtain ⟨head, presence⟩ := c
    cases presence with
    | inside => exact absurd current (out head)
    | left => rfl

theorem Stroke.gap_of_gone {h : Word} (current : w.place.current = some ⟨h, .inside⟩)
    (gone : k.state.findRecord h = none) : k.gap w = k.leave ⟨h, .inside⟩ w := by
  unfold Stroke.gap
  simp [current, gone]

theorem Stroke.gap_of_before {h : Word} (current : w.place.current = some ⟨h, .inside⟩)
    (found : k.state.findRecord h = some r) (before : k.y r.head < r.length) : k.gap w = w := by
  unfold Stroke.gap
  simp [current, found, before]

theorem Stroke.gap_of_past {h : Word} (current : w.place.current = some ⟨h, .inside⟩)
    (found : k.state.findRecord h = some r) (past : (r.length : Int) ≤ k.y r.head) :
    k.gap w = k.leave ⟨h, .inside⟩ w := by
  unfold Stroke.gap
  simp [current, found, past]

/-- A stroke whose line lies in no panel, or in one left or older than the current one, is a gap stroke (R64 to R66). -/
theorem Stroke.locate_of_gap (h : ∀ r, k.covering = some r → ∃ c, w.place.current = some c
    ∧ (c = ⟨r.head, .left⟩ ∨ c.head ≠ r.head ∧ ¬ 0 < webDist r.head c.head)) : k.locate w = k.gap w := by
  unfold Stroke.locate
  split
  · rfl
  · rename_i r covering
    obtain ⟨c, current, rfl | ⟨other, older⟩⟩ := h r covering
    · rw [current, Stroke.gap_of_out (by simp [current])]
      simp
    · rw [current]
      simp [other, older]

/-- A stroke located nowhere engages nothing and is a gap stroke or a stopped one (R70). -/
theorem Stroke.act_of_nowhere (nowhere : w.located = none) :
    k.act w = w.empty (if k.running then .gap else .stopped) := by
  unfold Stroke.act Stroke.runningStroke
  rw [nowhere]
  cases k.running <;> rfl

theorem Stroke.sentPlace_of_nowhere (nowhere : w.located = none) (o : StrokeOutcome) : k.sentPlace (w.empty o)
    = { w.place with engaged := 0, outcome := o, previous := ⟨0, none⟩ } := by
  have frame : k.frame (w.empty o) = ⟨0, none⟩ := by
    simp [Stroke.frame, nowhere]
  rw [Stroke.sentPlace, frame]
  cases k.running <;> rfl

/-- Settles O36: the gap stroke by what has become of the panel the bar is in. -/
theorem strokeLeavesPanel : Obligations.StrokeLeavesPanel := by
  unfold Obligations.StrokeLeavesPanel
  intro s b alone q gaps
  obtain ⟨k, hk⟩ : ∃ k, k = (s.pulseTaken b).strokeOf b := ⟨_, rfl⟩
  have bar : k.bar = b ∧ k.state = s.pulseTaken b ∧ k.y = s.yAt b := by
    subst hk
    exact ⟨rfl, rfl, rfl⟩
  obtain ⟨bar, state, y⟩ := bar
  have start : k.start.place = q ∧ k.start.located = none ∧ k.start.news = [] := by
    subst hk
    exact ⟨rfl, rfl, rfl⟩
  obtain ⟨startPlace, startLocated, startNews⟩ := start
  have late (h : Word) (d : DefectKind) : Noted k.start.notes h d ↔ s.NotesLate b h d :=
    hk ▸ State.start_noted (s.pulseTaken b) b h d
  have finish : k.finish = (k.gap k.start).empty (if k.running then .gap else .stopped) := by
    have located : k.locate k.start = k.gap k.start := by
      refine Stroke.locate_of_gap fun r covering => ?_
      rw [startPlace]
      exact gaps r ((State.strokeOf_covering (s.pulseTaken b) b).mp (hk ▸ covering))
    rw [Stroke.finish, located, Stroke.act_of_nowhere (Stroke.gap_located.trans startLocated)]
  have place : (((s.pulseTaken b).evaluateStroke b).bars.get b).place = { (k.gap k.start).place with
      engaged := 0
      outcome := if k.running then .gap else .stopped
      previous := ⟨0, none⟩ } := by
    rw [State.evaluateStroke_bar, ← hk, finish]
    exact Stroke.sentPlace_of_nowhere (Stroke.gap_located.trans startLocated) _
  have sends {told : StatusMessage → Prop} {noted : Word → DefectKind → Prop}
      (news : ∀ m, m ∈ (k.gap k.start).news ↔ told m)
      (notes : ∀ h d, Noted (k.gap k.start).notes h d ↔ noted h d) :
      s.Sends ((s.pulseTaken b).evaluateStroke b) b told noted := by
    refine State.evaluateStroke_sends (s := s.pulseTaken b) (fun m => ?_) fun h d => ?_
    · rw [← hk, finish]
      exact news m
    · rw [← hk, finish]
      exact notes h d
  have silent (same : k.gap k.start = k.start) :
      s.Sends ((s.pulseTaken b).evaluateStroke b) b (fun _ => False) (s.NotesLate b) := by
    refine sends (fun m => ?_) fun h d => ?_
    · rw [same, startNews]
      exact List.mem_nil_iff m
    · rw [same]
      exact late h d
  have running : k.running = true ↔ s.RunsNext b := hk ▸ State.strokeOf_running (s.pulseTaken b) b
  have kept : ∃ c, (k.gap k.start).place = { q with current := c } := by
    obtain same | ⟨c, left⟩ := Stroke.gap_place (k := k) (w := k.start)
    · exact ⟨q.current, same.trans startPlace⟩
    · exact ⟨_, startPlace ▸ left⟩
  refine ⟨_, exec_strokeEvent_alone alone, ?_, ?_, ?_, ?_, ?_⟩
  · obtain ⟨c, kept⟩ := kept
    rw [place, kept]
  · intro runs
    rw [place, running.mpr runs]
    rfl
  · intro stops
    rw [place, Bool.eq_false_iff.mpr (mt running.mp stops)]
    rfl
  · intro out
    have same : k.gap k.start = k.start := Stroke.gap_of_out (by rwa [startPlace])
    refine ⟨?_, silent same⟩
    rw [place, same, startPlace]
  · intro h current
    have inside : k.start.place.current = some ⟨h, .inside⟩ := by rw [startPlace, current]
    refine ⟨fun gone => ?_, fun pre r post holds head => ⟨fun before => ?_, fun past => ?_⟩⟩
    · have none_ : k.state.findRecord h = none := state ▸ State.findRecord_absent gone
      have left := Stroke.gap_of_gone inside none_
      refine ⟨by rw [place, left, Stroke.leave_place], sends (fun m => ?_) fun h' d => ?_⟩
      · rw [left, Stroke.leave_news, startNews, none_]
        simp
      · rw [left, Stroke.leave_noted, none_, late]
        simp
    · have found : k.state.findRecord h = some r := state ▸ State.findRecord_iff.mpr ⟨head, pre, post, holds⟩
      have stays := Stroke.gap_of_before inside found (by rw [y, head]; exact before)
      exact ⟨by rw [place, stays, startPlace, current], silent stays⟩
    · have found : k.state.findRecord h = some r := state ▸ State.findRecord_iff.mpr ⟨head, pre, post, holds⟩
      have left := Stroke.gap_of_past inside found (by rw [y, head]; exact past)
      refine ⟨by rw [place, left, Stroke.leave_place], sends (fun m => ?_) fun h' d => ?_⟩
      · rw [left, Stroke.leave_news, startNews, startPlace, hk]
        exact (or_iff_right List.not_mem_nil).trans (State.tellsLeaving_iff (s := s.pulseTaken b) current m).symm
      · rw [left, Stroke.leave_noted, late, startPlace, hk, or_comm]
        exact or_congr_left (State.notesLeaving_iff (s := s.pulseTaken b) current h' d).symm

end Sys2Proof.Machine
end

section
/-! PROOF. A stroke in the panel the bar stands in: what every placement stroke does and notes, the engaged set, and the
strokes of the tail (R70, R77, R78, R85, R86, R88). -/

namespace Sys2Proof.Machine

variable {s : State} {b : Bar} {k : Stroke} {w : Work} {r : PanelRecord}

/-- What the stroke sends is measured against the state its event arrives in (R88). -/
theorem State.pulse_sends {told : StatusMessage → Prop} {noted : Word → DefectKind → Prop}
    (news : ∀ m, m ∈ ((s.pulseTaken b).strokeOf b).finish.news ↔ told m)
    (notes : ∀ h d, Noted ((s.pulseTaken b).strokeOf b).finish.notes h d ↔ noted h d) :
    s.Sends ((s.pulseTaken b).evaluateStroke b) b told noted :=
  State.evaluateStroke_sends (s := s.pulseTaken b) news notes

/-! ### The engaged set -/

theorem State.getLsbD_eligible (s : State) (b : Bar) (n : NeedleNo) : (s.eligible b).getLsbD n.val = true
    ↔ (s.needle b n).state = .ready ∨ (s.needle b n).state = .probation := by
  have folded (l : List NeedleNo) (f : NeedleSet) :
      (l.foldl (fun f m => if (s.needle b m).eligible then f ||| needleBit m.val else f) f).getLsbD n.val = true
        ↔ f.getLsbD n.val = true ∨ n ∈ l ∧ (s.needle b n).eligible = true := by
    induction l generalizing f with
    | nil => simp
    | cons m l ih =>
      have bit : (needleBit m.val).getLsbD n.val = true ↔ n = m := by
        rw [needleBit, BitVec.getLsbD_twoPow, Bool.and_eq_true, decide_eq_true_eq, decide_eq_true_eq, Fin.ext_iff]
        omega
      rw [List.foldl_cons, ih]
      cases eligible : (s.needle b m).eligible
      · simp only [Bool.false_eq_true, if_false, List.mem_cons]
        grind
      · simp only [if_true, BitVec.getLsbD_or, Bool.or_eq_true, bit, List.mem_cons]
        grind
  rw [State.eligible, folded]
  simp [allNeedles, NeedleRecord.eligible]

/-- The engaged set holds exactly the needles that R85 engages. -/
theorem State.getLsbD_engage (s : State) (b : Bar) (r : PanelRecord) (segment : NeedleSet) (n : NeedleNo) :
    ((s.strokeOf b).engage r segment).getLsbD n.val = true ↔ s.Engages b r segment n := by
  have bits (width : NeedleSet) : (segment &&& width &&& s.eligible b &&& ~~~ s.overrideNext b).getLsbD n.val = true
      ↔ segment.getLsbD n.val = true ∧ width.getLsbD n.val = true
        ∧ ((s.needle b n).state = .ready ∨ (s.needle b n).state = .probation)
        ∧ (s.overrideNext b).getLsbD n.val = false := by
    rw [BitVec.getLsbD_and, BitVec.getLsbD_and, BitVec.getLsbD_and, BitVec.getLsbD_not, Bool.and_eq_true,
      Bool.and_eq_true, Bool.and_eq_true, State.getLsbD_eligible, decide_eq_true n.isLt, Bool.true_and,
      Bool.not_eq_true', and_assoc, and_assoc]
  have fixed : (s.strokeOf b).engage r segment = if r.aborted then 0 else segment
      &&& (match (r.bars.get b).widthSet with
        | some n => s.store.sets[n].members
        | none => BitVec.allOnes 40)
      &&& s.eligible b &&& ~~~ s.overrideNext b := rfl
  rw [fixed, State.Engages]
  cases r.aborted with
  | true => exact iff_of_false (by simp) nofun
  | false =>
    refine (bits _).trans (and_congr_right fun _ => Iff.trans ?_ (and_iff_right rfl).symm)
    cases (r.bars.get b).widthSet with
    | none => exact and_congr_left fun _ => iff_of_true (BitVec.getLsbD_allOnes.trans (decide_eq_true n.isLt)) nofun
    | some set => exact and_congr_left fun _ => ⟨fun h w hw => Option.some.inj hw ▸ h, fun h => h set rfl⟩

/-! ### A stroke in the panel the bar stands in -/

/-- The work of a placement stroke before its kind is settled: located, the last Y raised, and what every placement
stroke notes (R68, R70, R86). -/
def Stroke.standing (k : Stroke) (r : PanelRecord) : Work :=
  (((k.stay r k.start).note k.control.rehearsal r.head .rehearsed)).note (k.strokeClass = .long) r.head .longStitch

theorem State.StandsIn.locate (h : s.StandsIn b r) :
    (s.strokeOf b).locate (s.strokeOf b).start = (s.strokeOf b).stay r (s.strokeOf b).start :=
  Stroke.locate_of_inside ((s.strokeOf_covering b).mpr h.1) h.2

theorem State.standing_place (runs : s.RunsNext b) (r : PanelRecord) : ((s.strokeOf b).standing r).place
    = { (s.bars.get b).place with lastY := max (s.bars.get b).place.lastY (s.yAt b r.head) } := by
  rw [Stroke.standing, Work.note_place, Work.note_place, Stroke.stay_place, (s.strokeOf_running b).mpr runs]
  rfl

theorem State.standing_located (s : State) (b : Bar) (r : PanelRecord) : ((s.strokeOf b).standing r).located = some r := by
  rw [Stroke.standing, Work.note_located, Work.note_located, Stroke.stay_located]

theorem State.standing_news (runs : s.RunsNext b) (r : PanelRecord) (m : StatusMessage) :
    m ∉ ((s.strokeOf b).standing r).news := by
  rw [Stroke.standing, Work.note_news, Work.note_news, Stroke.stay_news, (s.strokeOf_running b).mpr runs]
  simp [Stroke.start]

theorem State.standing_noted (runs : s.RunsNext b) (r : PanelRecord) (h : Word) (d : DefectKind) :
    Noted ((s.strokeOf b).standing r).notes h d ↔ h = r.head ∧ s.NotesPlacing b d ∨ s.NotesLate b h d := by
  have rehearsal : (s.strokeOf b).control.rehearsal = s.rehearsalNext b := rfl
  rw [Stroke.standing, Work.noted_note, Work.noted_note, Stroke.stay_noted, State.start_noted,
    (s.strokeOf_running b).mpr runs, decide_eq_true_eq, State.strokeOf_long, rehearsal, State.NotesPlacing]
  simp only [Bool.true_eq_false, false_and, or_false]
  tauto

/-- A placement stroke in the panel the bar stands in, with the kind of the stroke still to settle (R70, R71, R75, R77). -/
theorem State.StandsIn.finish (h : s.StandsIn b r) (runs : s.RunsNext b) (forward : s.ForwardNext b)
    (pattern : (r.bars.get b).pattern ≠ none) :
    let k := s.strokeOf b
    let w := k.standing r
    k.finish = if w.place.tail ≠ .outside then k.tailStroke r w
      else if k.entersTail r w.place then k.tailStroke r (w.setPlace { w.place with tail := .tie 0 })
      else if w.place.finished then w.empty .finished
      else k.walkStroke r w := by
  intro k w
  have sews : (k.panelBar r).pattern.isNone = false := by
    rw [Option.isNone_eq_false_iff, Option.isSome_iff_ne_none]
    exact pattern
  have located : (k.stay r k.start).located = some r := rfl
  rw [Stroke.finish, h.locate, Stroke.act, if_pos ((s.strokeOf_running b).mpr runs)]
  unfold Stroke.runningStroke
  rw [located]
  dsimp only
  rw [sews, (s.strokeOf_forward b).mpr forward]
  rfl

/-! ### What the stroke sends -/

/-- The bar's placement fields after a running stroke located in a panel: the frame sent names it (R91, R105). -/
theorem Stroke.sentPlace_of_located (running : k.running = true) (located : w.located = some r) : k.sentPlace w
    = { w.place with previous := ⟨if k.control.rehearsal then 0 else w.place.engaged, some r.head⟩ } := by
  rw [Stroke.sentPlace, running, Stroke.frame, located]
  rfl

theorem Stroke.sentControl_of_running (running : k.running = true) (located : w.located = some r) : k.sentControl w
    = { k.control with
      driveCommand := some (BitVec.ofInt 16 w.place.x)
      transfer := some ⟨if k.control.rehearsal then 0 else w.place.engaged, some r.head⟩ } := by
  rw [Stroke.sentControl, running, Stroke.frame, located]
  rfl

/-! ### The strokes of the tail -/

theorem Stroke.tailStroke_tie {set : NeedleSet} {done : Nat}
    (under : k.state.store.namedSet (k.state.store.under w.place.cursor) = set) (count : w.place.tail.done = done)
    (tie : set ≠ 0 ∧ done < k.state.params.tailTie) : (k.tailStroke r w).place
      = { w.place with tail := .tie (done + 1), engaged := k.engage r set, outcome := .tie } := by
  unfold Stroke.tailStroke
  dsimp only
  rw [under, count, if_pos tie]
  rfl

theorem Stroke.tailStroke_postTie {set : NeedleSet} {done : Nat}
    (under : k.state.store.namedSet (k.state.store.under w.place.cursor) = set) (count : w.place.tail.done = done)
    (spent : ¬ (set ≠ 0 ∧ done < k.state.params.tailTie)) :
    (k.tailStroke r w).place = { w.place with engaged := 0, outcome := .postTie } := by
  unfold Stroke.tailStroke
  dsimp only
  rw [under, count, if_neg spent]
  rfl

/-- In the tail the stroke is one of the tail, with so many tie strokes done (R77, R78). -/
theorem State.StandsIn.finish_tail {done : Nat} (h : s.StandsIn b r) (runs : s.RunsNext b) (forward : s.ForwardNext b)
    (pattern : (r.bars.get b).pattern ≠ none) (tail : (s.bars.get b).place.tail = .tie done
      ∨ done = 0 ∧ (s.bars.get b).place.tail = .outside ∧ 1 ≤ r.tailMargin
        ∧ (r.length : Int) - r.tailMargin ≤ s.yAt b r.head) :
    let k := s.strokeOf b
    ∃ w, k.finish = k.tailStroke r w ∧ w.place = { (k.standing r).place with tail := .tie done }
      ∧ w.located = some r ∧ w.notes = (k.standing r).notes ∧ w.news = (k.standing r).news := by
  intro k
  have place := State.standing_place runs r
  have kind := h.finish runs forward pattern
  obtain inside | ⟨rfl, outside, margin, zone⟩ := tail
  · have tail : (k.standing r).place.tail = .tie done := by rw [place, inside]
    refine ⟨k.standing r, kind.trans (if_pos (by rw [tail]; exact nofun)), ?_, s.standing_located b r, rfl, rfl⟩
    rw [← tail]
  · have tail : (k.standing r).place.tail = .outside := by rw [place, outside]
    have enters : k.entersTail r (k.standing r).place = true := by
      simp only [Stroke.entersTail, tail, Bool.and_eq_true, decide_eq_true_eq]
      exact ⟨⟨trivial, margin⟩, zone⟩
    exact ⟨_, kind.trans ((if_neg (not_not_intro tail)).trans (if_pos enters)), rfl, s.standing_located b r, rfl, rfl⟩

/-- Settles O38. -/
theorem strokeTiesTail : Obligations.StrokeTiesTail := by
  unfold Obligations.StrokeTiesTail
  intro s b r done tied alone runs forward _ stands q y pattern tail onNone names
  obtain ⟨w, finish, place, located, notes, news⟩ := State.StandsIn.finish_tail (s := s.pulseTaken b) (r := r) stands runs
    forward pattern tail
  have running := (State.strokeOf_running (s.pulseTaken b) b).mpr runs
  have set_ : s.store.namedSet (s.store.under q.cursor) = tied := by
    obtain ⟨c, segment, dy, dx, cursor, entry, rfl⟩ | ⟨c, segment, n, a, cursor, entry, rfl⟩ | ⟨none_, rfl⟩ := names
    · rw [cursor, Store.under_some, entry]
      rfl
    · rw [cursor, Store.under_some, entry]
      rfl
    · obtain cursor | ⟨c, cursor, entry | entry | ⟨m, n, entry⟩ | ⟨g, entry⟩⟩ := none_
      · rw [cursor]
        rfl
      all_goals
        rw [cursor, Store.under_some, entry]
        rfl
  have standing := State.standing_place (s := s.pulseTaken b) runs r
  rw [standing] at place
  have under : (s.pulseTaken b).store.namedSet ((s.pulseTaken b).store.under w.place.cursor) = tied := by
    rw [place]
    exact set_
  have count : w.place.tail.done = done := by rw [place]; rfl
  have sent := Stroke.sentPlace_of_located (k := (s.pulseTaken b).strokeOf b)
    (w := ((s.pulseTaken b).strokeOf b).tailStroke r w) running (Stroke.tailStroke_located r |>.trans located)
  refine ⟨_, ((s.pulseTaken b).strokeOf b).engage r tied, exec_strokeEvent_alone alone,
    State.getLsbD_engage (s.pulseTaken b) b r tied, ⟨fun tie => ?_, fun spent => ?_⟩, ?_⟩
  · rw [State.evaluateStroke_bar, finish, sent, Stroke.tailStroke_tie under count tie, place]
    rfl
  · rw [State.evaluateStroke_bar, finish, sent, Stroke.tailStroke_postTie under count spent, place]
    rfl
  · refine State.pulse_sends (fun m => ?_) fun h d => ?_
    · rw [finish, Stroke.tailStroke_news, news]
      exact iff_of_false (State.standing_news (s := s.pulseTaken b) runs r m) id
    · rw [finish, Stroke.tailStroke_notes, notes]
      exact State.standing_noted (s := s.pulseTaken b) runs r h d

end Sys2Proof.Machine
end

section
/-! PROOF. The PLACED stroke: the pattern position on a LINE and on a LOCK, the lateral position, and what it notes (R71,
R73, R80 to R83, R85). -/

namespace Sys2Proof.Machine

variable {s : State} {b : Bar} {k : Stroke} {w : Work} {r : PanelRecord}

/-! ### The quotient -/

/-- The quotient nearest to the fraction, away from zero at a half, is the one `roundDiv` finds (R80). -/
theorem roundDiv_eq {num q : Int} {den : Nat} (pos : 1 ≤ den) (near : 2 * (q * den - num).natAbs ≤ den)
    (half : 2 * (q * den - num).natAbs = den → num.natAbs ≤ (q * den).natAbs) : roundDiv num den = q := by
  have quotient (a p : Nat) (low : 2 * (p * den) ≤ 2 * a + den) (high : 2 * a + den < 2 * (p * den) + 2 * den) :
      (2 * a + den) / (2 * den) = p :=
    Nat.div_eq_of_lt_le (by linarith) (by linarith)
  have sign {x : Int} : (x < 0 → x * den ≤ -den) ∧ (0 < x → den ≤ x * den) := by
    constructor
    · intro neg
      nlinarith
    · intro above
      nlinarith
  unfold roundDiv
  split
  · rename_i neg
    have below : q ≤ 0 := not_lt.mp fun above => by
      have := sign.2 above
      omega
    obtain ⟨p, rfl⟩ : ∃ p : Nat, q = -p := ⟨q.natAbs, by omega⟩
    have product : -(p : Int) * den = -((p * den : Nat) : Int) := by push_cast; ring
    rw [product] at near half
    rw [quotient num.natAbs p (by omega) (by omega)]
  · rename_i nonneg
    have above : 0 ≤ q := not_lt.mp fun below => by
      have := sign.1 below
      omega
    obtain ⟨p, rfl⟩ : ∃ p : Nat, q = p := ⟨q.natAbs, by omega⟩
    have product : (p : Int) * den = ((p * den : Nat) : Int) := by push_cast; ring
    rw [product] at near half
    rw [quotient num.natAbs p (by omega) (by omega)]

/-! ### The placed stroke -/

/-- The commanded target of a stroke, before it is clamped (R82). -/
def Stroke.target (k : Stroke) (r : PanelRecord) (p offset : Int) : Int := (k.panelBar r).origin + p + offset

/-- The target within the travel limits (R82). -/
def Stroke.clamped (k : Stroke) (r : PanelRecord) (p offset : Int) : Int :=
  clampTo (k.state.params.xMin.get k.bar) (k.state.params.xMax.get k.bar) (k.target r p offset)

theorem Stroke.placed_place {e : SegEntry} {q : Place} {offset : Int} (under : k.state.store.under w.place.cursor = e)
    (position : patternPosition e (k.y r.head) w.place = (q, offset)) : (k.placed r w).place = { q with
      x := moveTowards (k.state.params.stepMax.get k.bar) (k.clamped r q.p offset) q.x
      engaged := k.engage r (k.state.store.namedSet e)
      outcome := .placed } := by
  unfold Stroke.placed
  simp only [under, position, Work.note_place]
  rfl

theorem Stroke.placed_noted {e : SegEntry} {q : Place} {offset : Int} (under : k.state.store.under w.place.cursor = e)
    (position : patternPosition e (k.y r.head) w.place = (q, offset)) (h : Word) (d : DefectKind) :
    Noted (k.placed r w).notes h d ↔ Noted w.notes h d ∨ h = r.head
      ∧ (d = .travelClamp ∧ k.clamped r q.p offset ≠ k.target r q.p offset
        ∨ d = .lag ∧ k.state.params.stepMax.get k.bar < (k.clamped r q.p offset - q.x).natAbs) := by
  unfold Stroke.placed
  simp only [under, position, Work.noted_note, decide_eq_true_eq]
  rw [Stroke.clamped, Stroke.target, Work.setPlace_notes]
  tauto

theorem Stroke.walkStroke_covered {q : Place} {deep : Bool}
    (walk : walkCursor k.state.store (k.panelBar r).pattern (k.y r.head) Config.walkBudget w.place false = (q, deep, true)) :
    k.walkStroke r w = k.placed r ((w.setPlace q).note deep r.head .motifDepth) := by
  unfold Stroke.walkStroke
  rw [walk]
  rfl

/-- Outside the tail and with the pattern not finished, the stroke walks the cursor (R71). -/
theorem State.StandsIn.finish_walk (h : s.StandsIn b r) (runs : s.RunsNext b) (forward : s.ForwardNext b)
    (pattern : (r.bars.get b).pattern ≠ none) (tail : (s.bars.get b).place.tail = .outside)
    (zone : r.tailMargin = 0 ∨ s.yAt b r.head < (r.length : Int) - r.tailMargin)
    (goes : (s.bars.get b).place.finished = false) :
    (s.strokeOf b).finish = (s.strokeOf b).walkStroke r ((s.strokeOf b).standing r) := by
  have place := State.standing_place runs r
  have outside : ((s.strokeOf b).standing r).place.tail = .outside := by rw [place, tail]
  have before : ¬ (s.strokeOf b).entersTail r ((s.strokeOf b).standing r).place = true := by
    simp only [Stroke.entersTail, Bool.and_eq_true, decide_eq_true_eq]
    rintro ⟨⟨_, margin⟩, inside⟩
    obtain zero | short := zone
    · omega
    · exact absurd inside (not_le.mpr short)
  have unfinished : ¬ ((s.strokeOf b).standing r).place.finished = true := by
    rw [place, goes]
    exact Bool.false_ne_true
  exact (h.finish runs forward pattern).trans <|
    (if_neg (not_not_intro outside)).trans <| (if_neg before).trans (if_neg unfinished)

/-- What a stroke notes on its panel in two stages, and what else it notes, put together. -/
theorem notes_joined {here placing late clamp lag : Prop} :
    (here ∧ placing ∨ late) ∨ here ∧ (clamp ∨ lag) ↔ here ∧ (clamp ∨ lag ∨ placing) ∨ late := by
  tauto

/-- Settles O37: the walk stops at once, on the covering segment under the cursor. -/
theorem strokePlacedOnSegment : Obligations.StrokePlacedOnSegment := by
  unfold Obligations.StrokePlacedOnSegment
  intro s b r c segment quotient offset n alone runs forward _ stands q y pattern tail zone goes cursor covers
  have running := (State.strokeOf_running (s.pulseTaken b) b).mpr runs
  have standing := State.standing_place (s := s.pulseTaken b) runs r
  have covered : (s.pulseTaken b).store.Covered y (((s.pulseTaken b).strokeOf b).standing r).place := by
    rw [standing]
    refine ⟨c, cursor, ?_⟩
    obtain ⟨dy, dx, entry, _, reaches, _⟩ | ⟨m, a, entry, left, _⟩ := covers
    · exact .inl ⟨_, _, _, entry, reaches⟩
    · exact .inr ⟨_, _, _, entry, left⟩
  have goes' : (((s.pulseTaken b).strokeOf b).standing r).place.finished = false := by
    rw [standing]
    exact goes
  have walk := walkCursor_covered (s.pulseTaken b).store (r.bars.get b).pattern y Config.walkBudget _ false goes' covered
  have finish := (State.StandsIn.finish_walk (s := s.pulseTaken b) (r := r) stands runs forward pattern tail zone goes).trans
    (Stroke.walkStroke_covered walk)
  obtain ⟨set_, hset⟩ : ∃ set_, set_ = s.store.sets[segment].members := ⟨_, rfl⟩
  rw [← hset]
  obtain ⟨v, hv⟩ : ∃ v : Work, v = ((((s.pulseTaken b).strokeOf b).standing r).setPlace
      (((s.pulseTaken b).strokeOf b).standing r).place).note false r.head .motifDepth := ⟨_, rfl⟩
  have place : v.place = { q with lastY := max q.lastY y } := by
    rw [hv]
    exact standing
  have located : v.located = some r := by
    rw [hv]
    exact State.standing_located (s.pulseTaken b) b r
  rw [← hv] at finish
  obtain ⟨p, hp⟩ : ∃ p, p = if n = q.lockCount then max (-65535) (min 65535 (q.ps + quotient)) else q.ps := ⟨_, rfl⟩
  have position : ∃ e, s.store.under v.place.cursor = e ∧ s.store.namedSet e = set_
      ∧ patternPosition e y v.place = ({ q with lastY := max q.lastY y, lockCount := n, p := p }, offset) := by
    rw [place, hset]
    refine ⟨s.store.entry (c.page, c.index), (congrArg s.store.under cursor).trans (Store.under_some _ c), ?_⟩
    obtain ⟨dy, dx, entry, one, _, near, half, rfl, rfl⟩ | ⟨m, a, entry, _, rfl, rfl, rfl⟩ := covers
    · rw [entry, hp, if_pos rfl]
      refine ⟨rfl, ?_⟩
      show (({ q with
        lastY := max q.lastY y
        p := saturate (q.ps + roundDiv (dx * (y - q.ys)) dy) } : Place), (0 : Int)) = _
      rw [roundDiv_eq one near half]
      rfl
    · rw [entry, hp, if_neg (by omega)]
      exact ⟨rfl, rfl⟩
  obtain ⟨e, under, named, position⟩ := position
  have kinds := Stroke.placed_noted (k := (s.pulseTaken b).strokeOf b) (w := v) (r := r) under position
  have placed := Stroke.placed_place (k := (s.pulseTaken b).strokeOf b) (w := v) (r := r) under position
  have located' : (((s.pulseTaken b).strokeOf b).placed r v).located = some r := (Stroke.placed_located r).trans located
  refine ⟨_, ((s.pulseTaken b).strokeOf b).engage r set_, exec_strokeEvent_alone alone,
    State.getLsbD_engage (s.pulseTaken b) b r set_, ?_⟩
  intro p' p'' target clamped x frame
  have same : p = p'' := hp
  have engaged : ((s.pulseTaken b).strokeOf b).state.store.namedSet e = set_ := named
  rw [engaged] at placed
  refine ⟨?_, ?_, ?_, ?_⟩
  · rw [State.evaluateStroke_bar, finish, Stroke.sentPlace_of_located running located', placed, same]
    rfl
  · rw [State.evaluateStroke_bar, finish, Stroke.sentControl_of_running running located', placed, same]
    rfl
  · rw [State.evaluateStroke_bar, finish, Stroke.sentControl_of_running running located', placed, same]
    rfl
  · refine State.pulse_sends (fun m => ?_) fun h d => ?_
    · rw [finish, Stroke.placed_news, hv, Work.note_news, Work.setPlace_news]
      exact iff_of_false (State.standing_news (s := s.pulseTaken b) runs r m) id
    · have noted : Noted (((s.pulseTaken b).strokeOf b).standing r).notes h d
          ↔ h = r.head ∧ s.NotesPlacing b d ∨ s.NotesLate b h d :=
        State.standing_noted (s := s.pulseTaken b) runs r h d
      have aimed : ((s.pulseTaken b).strokeOf b).target r p'' offset = target
          ∧ ((s.pulseTaken b).strokeOf b).clamped r p'' offset = clamped := ⟨rfl, rfl⟩
      have limit : ((s.pulseTaken b).strokeOf b).state.params.stepMax.get ((s.pulseTaken b).strokeOf b).bar
          = s.params.stepMax.get b := rfl
      rw [finish, kinds, hv, Work.noted_note, Work.setPlace_notes, same, noted, aimed.1, aimed.2, limit]
      simp only [Bool.false_eq_true, false_and, or_false]
      exact notes_joined

end Sys2Proof.Machine
end

section
/-! PROOF. What a stroke does depends on its place, its panel and what it reads, not on what was noted before; and the
walk of the cursor along the entries it leaves (R71 to R76). -/

namespace Sys2Proof.Machine

variable {s : State} {b : Bar} {k : Stroke} {r : PanelRecord}

/-! ### Works that differ in what is noted -/

/-- A work that stands where another does, with kinds noted besides. -/
structure Work.Extends (more : Word → DefectKind → Prop) (w w' : Work) : Prop where
  place : w.place = w'.place
  located : w.located = w'.located
  noted : ∀ h d, Noted w.notes h d ↔ Noted w'.notes h d ∨ more h d

section

variable {more : Word → DefectKind → Prop} {w w' : Work}

theorem Work.Extends.note (x : w.Extends more w') (c : Bool) (head : Word) (kind : DefectKind) :
    (w.note c head kind).Extends more (w'.note c head kind) where
  place := by rw [Work.note_place, Work.note_place, x.place]
  located := by rw [Work.note_located, Work.note_located, x.located]
  noted h d := by
    rw [Work.noted_note, Work.noted_note, x.noted]
    exact or_right_comm

theorem Work.Extends.setPlace (x : w.Extends more w') (q : Place) : (w.setPlace q).Extends more (w'.setPlace q) :=
  ⟨rfl, x.located, x.noted⟩

theorem Work.Extends.empty (x : w.Extends more w') (o : StrokeOutcome) : (w.empty o).Extends more (w'.empty o) := by
  rw [Work.empty, Work.empty, x.place]
  exact x.setPlace _

theorem Work.Extends.tailStroke (x : w.Extends more w') : (k.tailStroke r w).Extends more (k.tailStroke r w') := by
  unfold Stroke.tailStroke
  rw [x.place]
  dsimp only
  split
  · exact x.setPlace _
  · exact x.empty _

theorem Work.Extends.placed (x : w.Extends more w') : (k.placed r w).Extends more (k.placed r w') := by
  unfold Stroke.placed
  rw [x.place]
  exact ((x.setPlace _).note _ _ _).note _ _ _

theorem Work.Extends.walkStroke (x : w.Extends more w') : (k.walkStroke r w).Extends more (k.walkStroke r w') := by
  unfold Stroke.walkStroke
  rw [x.place]
  dsimp only
  split_ifs
  · exact ((x.setPlace _).note _ _ _).placed
  · exact ((x.setPlace _).note _ _ _).empty _
  · exact (((x.setPlace _).note _ _ _).empty _).note _ _ _

theorem Work.Extends.placement (x : w.Extends more w') : (k.placement r w).Extends more (k.placement r w') := by
  have noted := x.note (k.strokeClass = .long) r.head .longStitch
  unfold Stroke.placement
  dsimp only
  rw [noted.place]
  split_ifs
  · exact noted.tailStroke
  · exact (noted.setPlace _).tailStroke
  · exact noted.empty _
  · exact noted.walkStroke

theorem Work.Extends.act (x : w.Extends more w') : (k.act w).Extends more (k.act w') := by
  unfold Stroke.act Stroke.runningStroke
  rw [x.located]
  split
  · split
    · exact x.empty _
    · dsimp only
      split_ifs
      · exact x.empty _
      · exact (x.note _ _ _).placement
      · exact (x.note _ _ _).empty _
  · exact x.empty _

end

/-! ### The bar with another place -/

theorem State.get_withPlace (s : State) (b : Bar) (q : Place) :
    (s.withPlace b q).bars.get b = { s.bars.get b with place := q } := PerBar.get_set_self _ _ _

/-- The stroke of a bar with another place differs in what it reads of the bar alone. -/
theorem State.strokeOf_withPlace (s : State) (b : Bar) (q : Place) :
    (s.withPlace b q).strokeOf b = { s.strokeOf b with state := (s.strokeOf b).state.withPlace b q } := by
  unfold State.strokeOf
  rw [State.get_withPlace]
  rfl

theorem Stroke.act_withPlace (k : Stroke) (b : Bar) (q : Place) (w : Work) :
    ({ k with state := k.state.withPlace b q } : Stroke).act w = k.act w := by
  rfl

theorem Stroke.placed_withPlace (k : Stroke) (b : Bar) (q : Place) (r : PanelRecord) (w : Work) :
    ({ k with state := k.state.withPlace b q } : Stroke).placed r w = k.placed r w := by
  rfl

theorem State.start_withPlace (s : State) (b : Bar) (q : Place) : ((s.withPlace b q).strokeOf b).start
    = { (s.strokeOf b).start with place := q } := by
  have start (u : State) : (u.strokeOf b).start = { place := (u.bars.get b).place, located := none, news := [], notes :=
      match (u.bars.get b).control.transfer with
      | some ⟨_, some h⟩ => [(h, DefectKind.selectLate.bit)]
      | _ => [] } := rfl
  rw [start, start, State.get_withPlace]

theorem State.evaluateStroke_bars (s : State) (b : Bar) : (s.evaluateStroke b).bars = s.bars.set b
    { reference := classify s.params s.w (s.bars.get b).reference
      control := (s.strokeOf b).sentControl (s.strokeOf b).finish
      place := (s.strokeOf b).sentPlace (s.strokeOf b).finish } := by
  simp [State.evaluateStroke]

theorem PerBar.set_set {α : Type} (p : PerBar α) (b : Bar) (u v : α) : (p.set b u).set b v = p.set b v := by
  cases b <;> rfl

/-- Strokes of a bar that come to the same place and panel from different places leave the same bars. -/
theorem State.bars_withPlace {q : Place}
    (place : (s.strokeOf b).finish.place = ((s.withPlace b q).strokeOf b).finish.place)
    (located : (s.strokeOf b).finish.located = ((s.withPlace b q).strokeOf b).finish.located) :
    (s.evaluateStroke b).bars = ((s.withPlace b q).evaluateStroke b).bars := by
  have control (w : Work) : ((s.withPlace b q).strokeOf b).sentControl w = (s.strokeOf b).sentControl w := by
    rw [State.strokeOf_withPlace]
    rfl
  have sent (w : Work) : ((s.withPlace b q).strokeOf b).sentPlace w = (s.strokeOf b).sentPlace w := by
    rw [State.strokeOf_withPlace]
    rfl
  have frames {w w' : Work} (place : w.place = w'.place) (located : w.located = w'.located) :
      (s.strokeOf b).sentControl w = (s.strokeOf b).sentControl w'
        ∧ (s.strokeOf b).sentPlace w = (s.strokeOf b).sentPlace w' := by
    rw [Stroke.sentControl, Stroke.sentControl, Stroke.sentPlace, Stroke.sentPlace, Stroke.frame, Stroke.frame, place,
      located]
    exact ⟨rfl, rfl⟩
  rw [State.evaluateStroke_bars, State.evaluateStroke_bars, control, sent, (frames place located).1,
    (frames place located).2, State.get_withPlace]
  exact (PerBar.set_set s.bars b _ _).symm

section

variable (s : State) (b : Bar) (q : Place)

theorem State.runsNext_withPlace : (s.withPlace b q).RunsNext b ↔ s.RunsNext b := by
  unfold State.RunsNext
  rw [State.get_withPlace]
  exact Iff.rfl

theorem State.advanceIs_withPlace (adv : Int) : (s.withPlace b q).AdvanceIs b adv ↔ s.AdvanceIs b adv := by
  unfold State.AdvanceIs
  rw [State.get_withPlace]
  exact Iff.rfl

theorem State.forwardNext_withPlace : (s.withPlace b q).ForwardNext b ↔ s.ForwardNext b :=
  exists_congr fun adv => and_congr_left fun _ => s.advanceIs_withPlace b q adv

theorem State.notesPlacing_withPlace (d : DefectKind) : (s.withPlace b q).NotesPlacing b d ↔ s.NotesPlacing b d := by
  have long : (s.withPlace b q).LongNext b ↔ s.LongNext b :=
    exists_congr fun adv => and_congr_left fun _ => s.advanceIs_withPlace b q adv
  have rehearsal : (s.withPlace b q).rehearsalNext b = s.rehearsalNext b := by
    unfold State.rehearsalNext
    rw [State.get_withPlace]
  unfold State.NotesPlacing
  rw [long, rehearsal]

theorem State.notesLate_withPlace (h : Word) (d : DefectKind) :
    (s.withPlace b q).NotesLate b h d ↔ s.NotesLate b h d := by
  unfold State.NotesLate
  rw [State.get_withPlace]

variable {s} in
theorem State.StrokesAlone.withPlace (h : s.StrokesAlone b) : (s.withPlace b q).StrokesAlone b := h

variable {s} in
theorem State.StandsIn.withPlace (h : s.StandsIn b r) (current : q.current = (s.bars.get b).place.current) :
    (s.withPlace b q).StandsIn b r := by
  unfold State.StandsIn
  rw [State.get_withPlace]
  exact ⟨h.1, current.trans h.2⟩

end

/-! ### The walk -/

/-- What a step of the walk keeps of the place (R72 to R76). -/
structure Place.Walked (q z : Place) : Prop where
  current : z.current = q.current
  stoppedInPanel : z.stoppedInPanel = q.stoppedInPanel
  lastY : z.lastY = q.lastY
  tail : z.tail = q.tail
  x : z.x = q.x
  previous : z.previous = q.previous

theorem Place.Walked.rfl {q : Place} : q.Walked q := ⟨.refl _, .refl _, .refl _, .refl _, .refl _, .refl _⟩

theorem Place.Walked.trans {a q z : Place} (h : a.Walked q) (h' : q.Walked z) : a.Walked z where
  current := h'.current.trans h.current
  stoppedInPanel := h'.stoppedInPanel.trans h.stoppedInPanel
  lastY := h'.lastY.trans h.lastY
  tail := h'.tail.trans h.tail
  x := h'.x.trans h.x
  previous := h'.previous.trans h.previous

theorem walkStep_walked (st : Store) (own : Option PatternId) (y : Int) (c : Cursor) (q : Place) :
    q.Walked (walkStep st own y c q).1 := by
  unfold walkStep stepCall stepEnd
  cases st.entry (c.page, c.index)
  case call m n =>
    dsimp only
    split <;> exact ⟨rfl, rfl, rfl, rfl, rfl, rfl⟩
  case fin =>
    dsimp only
    cases q.stack with
    | nil => exact ⟨rfl, rfl, rfl, rfl, rfl, rfl⟩
    | cons f below =>
      dsimp only
      split <;> exact ⟨rfl, rfl, rfl, rfl, rfl, rfl⟩
  all_goals exact ⟨rfl, rfl, rfl, rfl, rfl, rfl⟩

/-- The place with the last Y raised to a position. -/
def Place.upTo (q : Place) (l : Int) : Place := { q with lastY := l }

/-- The last Y is nothing to a step (R72 to R76). -/
theorem walkStep_upTo (st : Store) (own : Option PatternId) (y : Int) (c : Cursor) (q : Place) (l : Int) :
    walkStep st own y c (q.upTo l) = ((walkStep st own y c q).1.upTo l, (walkStep st own y c q).2) := by
  have stack : (q.upTo l).stack = q.stack := rfl
  unfold walkStep stepCall stepEnd
  rw [stack]
  cases st.entry (c.page, c.index)
  case call m n =>
    dsimp only
    split <;> rfl
  case fin =>
    cases q.stack with
    | nil => rfl
    | cons f below =>
      dsimp only
      split <;> rfl
  all_goals rfl

theorem walkCursor_upTo (st : Store) (own : Option PatternId) (y l : Int) (budget : Nat) (q : Place) (deep : Bool) :
    walkCursor st own y budget (q.upTo l) deep
      = ((walkCursor st own y budget q deep).1.upTo l, (walkCursor st own y budget q deep).2) := by
  have covering (e : SegEntry) (q : Place) : covers e (q.upTo l) y = covers e q y := by
    cases e <;> rfl
  have fields (q : Place) : (q.upTo l).cursor = q.cursor ∧ (q.upTo l).finished = q.finished := ⟨rfl, rfl⟩
  induction budget generalizing q deep with
  | zero =>
    unfold walkCursor
    rw [(fields q).1, (fields q).2]
    cases q.cursor with
    | none => rfl
    | some c =>
      dsimp only
      rw [covering]
      split_ifs <;> rfl
  | succ budget ih =>
    unfold walkCursor
    rw [(fields q).1, (fields q).2]
    cases q.cursor with
    | none => rfl
    | some c =>
      dsimp only
      rw [covering, walkStep_upTo]
      split_ifs
      · rfl
      · rfl
      · exact ih _ _

/-- The walk goes along the path that the steps make, and spends one of its budget at each (R71). -/
theorem walkCursor_path {st : Store} {own : PatternId} {y : Int} {path : List Place} {q z : Place}
    (walks : st.Walks own y path) (first : path.head? = some q) (last : path.getLast? = some z) {budget : Nat}
    (most : path.length ≤ budget + 1) (deep : Bool) : ∃ passed : Bool,
      (passed = true ↔ deep = true ∨ ∃ a ∈ path.dropLast, st.PassesOver a)
      ∧ walkCursor st (some own) y budget q deep = walkCursor st (some own) y (budget + 1 - path.length) z passed
      ∧ q.Walked z := by
  induction path generalizing q budget deep with
  | nil => cases first
  | cons a rest ih =>
    obtain rfl := Option.some.inj first
    cases rest with
    | nil =>
      obtain rfl := Option.some.inj last
      exact ⟨deep, by simp, rfl, .rfl⟩
    | cons a' rest =>
      obtain ⟨⟨uncovered, goes, steps⟩, walks⟩ := List.isChain_cons_cons.mp walks
      obtain ⟨c, cursor, _⟩ := id steps
      obtain ⟨budget, rfl⟩ : ∃ m, budget = m + 1 := ⟨budget - 1, by simp only [List.length_cons] at most; omega⟩
      have stepped := walkStep_of_stepsTo steps c cursor
      obtain ⟨passed, over_, walked, kept⟩ := ih walks rfl (by rwa [List.getLast?_cons_cons] at last)
        (budget := budget) (by simpa using most) (deep || (walkStep st (some own) y c a).2)
      refine ⟨passed, ?_, ?_, ?_⟩
      · rw [over_, Bool.or_eq_true, walkStep_passed st (some own) y a c cursor, List.dropLast_cons_cons,
          List.exists_mem_cons_iff, or_assoc]
      · rw [walkCursor_step st (some own) y budget a deep c cursor goes uncovered, stepped, walked]
        congr 1
        simp only [List.length_cons]
        omega
      · exact (stepped ▸ walkStep_walked st (some own) y c a).trans kept

/-! ### The stroke that walks -/

/-- Outside the tail the stroke walks the cursor; a finished pattern is no walk at all (R71, R75). -/
theorem State.StandsIn.finish_walks (h : s.StandsIn b r) (runs : s.RunsNext b) (forward : s.ForwardNext b)
    (pattern : (r.bars.get b).pattern ≠ none) (tail : (s.bars.get b).place.tail = .outside)
    (zone : r.tailMargin = 0 ∨ s.yAt b r.head < (r.length : Int) - r.tailMargin) :
    (s.strokeOf b).finish = (s.strokeOf b).walkStroke r ((s.strokeOf b).standing r) := by
  cases goes : (s.bars.get b).place.finished with
  | false => exact h.finish_walk runs forward pattern tail zone goes
  | true =>
    have place := State.standing_place runs r
    have outside : ((s.strokeOf b).standing r).place.tail = .outside := by rw [place, tail]
    have before : ¬ (s.strokeOf b).entersTail r ((s.strokeOf b).standing r).place = true := by
      simp only [Stroke.entersTail, Bool.and_eq_true, decide_eq_true_eq]
      rintro ⟨⟨_, margin⟩, inside⟩
      obtain zero | short := zone
      · omega
      · exact absurd inside (not_le.mpr short)
    have finished : ((s.strokeOf b).standing r).place.finished = true := by rw [place, goes]
    refine (h.finish runs forward pattern).trans <|
      (if_neg (not_not_intro outside)).trans <| (if_neg before).trans <| (if_pos finished).trans ?_
    unfold Stroke.walkStroke
    rw [walkCursor_finished _ _ _ _ _ _ finished]
    exact (if_pos finished).symm

variable {w : Work}

theorem Stroke.walkStroke_finished {q : Place} {deep : Bool} (finished : q.finished = true)
    (walk : walkCursor k.state.store (k.panelBar r).pattern (k.y r.head) Config.walkBudget w.place false
      = (q, deep, false)) :
    k.walkStroke r w = ((w.setPlace q).note deep r.head .motifDepth).empty .finished := by
  unfold Stroke.walkStroke
  rw [walk]
  exact if_pos finished

theorem Stroke.walkStroke_overrun {q : Place} {deep : Bool} (goes : q.finished = false)
    (walk : walkCursor k.state.store (k.panelBar r).pattern (k.y r.head) Config.walkBudget w.place false
      = (q, deep, false)) :
    k.walkStroke r w
      = (((w.setPlace q).note deep r.head .motifDepth).empty .overrun).note true r.head .segOverrun := by
  have unfinished : ¬ q.finished = true := by simp [goes]
  unfold Stroke.walkStroke
  rw [walk]
  exact if_neg unfinished

/-- A PLACED stroke of a located work is PLACED (R70). -/
theorem Stroke.placed_outcome (k : Stroke) (r : PanelRecord) (w : Work) : (k.placed r w).place.outcome = .placed := by
  cases position : patternPosition (k.state.store.under w.place.cursor) (k.y r.head) w.place with
  | mk q offset => rw [Stroke.placed_place rfl position]

/-- The bar's place after a stroke that is located in a panel (R91). -/
theorem State.pulse_place_of_located (runs : s.RunsNext b)
    (located : ((s.pulseTaken b).strokeOf b).finish.located = some r) :
    let q := ((s.pulseTaken b).strokeOf b).finish.place
    (((s.pulseTaken b).evaluateStroke b).bars.get b).place
      = { q with previous := ⟨if s.rehearsalNext b then 0 else q.engaged, some r.head⟩ } := by
  have running := (State.strokeOf_running (s.pulseTaken b) b).mpr runs
  rw [State.evaluateStroke_bar]
  exact Stroke.sentPlace_of_located running located

theorem notes_of_walk {here placing late depth deep passed : Prop} (passes : passed ↔ deep) :
    (here ∧ placing ∨ late) ∨ passed ∧ here ∧ depth ↔ here ∧ (placing ∨ depth ∧ deep) ∨ late := by
  rw [passes]
  tauto

/-- A stroke that begins on the covering segment the walk comes to is placed there at once. -/
theorem State.StandsIn.finish_covered {own : PatternId} {z : Place} (stands : s.StandsIn b r) (runs : s.RunsNext b)
    (forward : s.ForwardNext b) (pattern : (r.bars.get b).pattern = some own) (kept : (s.bars.get b).place.Walked z)
    (tail : (s.bars.get b).place.tail = .outside)
    (zone : r.tailMargin = 0 ∨ s.yAt b r.head < (r.length : Int) - r.tailMargin) (goes : z.finished = false)
    (covered : s.store.Covered (s.yAt b r.head) z) :
    ∃ w : Work, w.place = z.upTo (max (s.bars.get b).place.lastY (s.yAt b r.head)) ∧ w.located = some r
      ∧ (∀ h d, Noted w.notes h d ↔ h = r.head ∧ s.NotesPlacing b d ∨ s.NotesLate b h d)
      ∧ (((s.withPlace b z).pulseTaken b).strokeOf b).finish = ((s.pulseTaken b).strokeOf b).placed r w := by
  have runs' := (s.runsNext_withPlace b z).mpr runs
  have get : ((s.withPlace b z).pulseTaken b).bars.get b = { s.bars.get b with place := z } := s.get_withPlace b z
  have sews : (r.bars.get b).pattern ≠ none := by rw [pattern]; exact nofun
  obtain ⟨k, hk⟩ : ∃ k, k = ((s.withPlace b z).pulseTaken b).strokeOf b := ⟨_, rfl⟩
  have fixed : k = { (s.pulseTaken b).strokeOf b with state := ((s.pulseTaken b).strokeOf b).state.withPlace b z } :=
    hk ▸ State.strokeOf_withPlace (s.pulseTaken b) b z
  have same (w : Work) : k.placed r w = ((s.pulseTaken b).strokeOf b).placed r w := by
    rw [fixed]
    exact Stroke.placed_withPlace ..
  have place : (k.standing r).place = z.upTo (max (s.bars.get b).place.lastY (s.yAt b r.head)) := by
    rw [hk, State.standing_place (s := (s.withPlace b z).pulseTaken b) runs', get, ← kept.lastY]
    rfl
  have finish : k.finish = k.walkStroke r (k.standing r) :=
    hk ▸ State.StandsIn.finish_walks (s := (s.withPlace b z).pulseTaken b) (r := r) (stands.withPlace b z kept.current)
      runs' ((s.forwardNext_withPlace b z).mpr forward) sews
      ((congrArg (·.place.tail) get).trans (kept.tail.trans tail)) zone
  have walk : walkCursor k.state.store (k.panelBar r).pattern (k.y r.head) Config.walkBudget (k.standing r).place false
      = (z.upTo (max (s.bars.get b).place.lastY (s.yAt b r.head)), false, true) := by
    have reads : k.state.store = s.store ∧ (k.panelBar r).pattern = some own ∧ k.y r.head = s.yAt b r.head := by
      subst hk
      exact ⟨rfl, pattern, rfl⟩
    rw [reads.1, reads.2.1, reads.2.2, place, walkCursor_upTo, walkCursor_covered _ _ _ _ _ _ goes covered]
  refine ⟨((k.standing r).setPlace (z.upTo (max (s.bars.get b).place.lastY (s.yAt b r.head)))).note false r.head
    .motifDepth, Work.note_place .., ?_, fun h d => ?_, ?_⟩
  · rw [Work.note_located, Work.setPlace_located, hk]
    exact State.standing_located ..
  · rw [Work.noted_note, Work.setPlace_notes, hk,
      State.standing_noted (s := (s.withPlace b z).pulseTaken b) runs']
    exact (or_iff_left (fun passed => Bool.false_ne_true passed.1)).trans
      (or_congr (and_congr_right fun _ => s.notesPlacing_withPlace b z d) (s.notesLate_withPlace b z h d))
  · rw [← hk, finish, Stroke.walkStroke_covered walk]
    exact same _

/-- Settles O60: the walk along the path, and then the stroke on the place it comes to. -/
theorem cursorWalkFollowsEntries : Obligations.CursorWalkFollowsEntries := by
  unfold Obligations.CursorWalkFollowsEntries
  intro s b r own path z alone runs forward _ stands q y pattern tail zone first last most walks deep held notes
  have sews : (r.bars.get b).pattern ≠ none := by rw [pattern]; exact nofun
  obtain ⟨k, hk⟩ : ∃ k, k = (s.pulseTaken b).strokeOf b := ⟨_, rfl⟩
  have standing : (k.standing r).place = q.upTo (max q.lastY y) :=
    hk ▸ State.standing_place (s := s.pulseTaken b) runs r
  have located : (k.standing r).located = some r := hk ▸ State.standing_located (s.pulseTaken b) b r
  have silent (m : StatusMessage) : m ∉ (k.standing r).news := hk ▸ State.standing_news (s := s.pulseTaken b) runs r m
  have noted (h : Word) (d : DefectKind) : Noted (k.standing r).notes h d
      ↔ h = r.head ∧ s.NotesPlacing b d ∨ s.NotesLate b h d :=
    hk ▸ State.standing_noted (s := s.pulseTaken b) runs r h d
  have finish : k.finish = k.walkStroke r (k.standing r) :=
    hk ▸ State.StandsIn.finish_walks (s := s.pulseTaken b) (r := r) stands runs forward sews tail zone
  have reads : k.state.store = s.store ∧ (k.panelBar r).pattern = some own ∧ k.y r.head = y := by
    subst hk
    exact ⟨rfl, pattern, rfl⟩
  obtain ⟨passed, passes, walked, kept⟩ := walkCursor_path walks first last (budget := Config.walkBudget) most false
  have passes : passed = true ↔ deep := passes.trans (or_iff_right Bool.false_ne_true)
  have walk : walkCursor k.state.store (k.panelBar r).pattern (k.y r.head) Config.walkBudget (k.standing r).place false
      = ((walkCursor s.store (some own) y (Config.walkBudget + 1 - path.length) z passed).1.upTo (max q.lastY y),
        (walkCursor s.store (some own) y (Config.walkBudget + 1 - path.length) z passed).2) := by
    rw [reads.1, reads.2.1, reads.2.2, standing, walkCursor_upTo, walked]
  have news (m : StatusMessage) : m ∈ k.finish.news ↔ False := by
    rw [finish, Stroke.walkStroke_news]
    exact iff_false_intro (silent m)
  have placed_ : k.finish.located = some r := by rw [finish, Stroke.walkStroke_located, located]
  have came (h : Word) (d : DefectKind) :
      Noted (((k.standing r).setPlace (z.upTo (max q.lastY y))).note passed r.head .motifDepth).notes h d ↔ notes h d :=
    (Work.noted_note _ _ _).trans ((or_congr_left (noted h d)).trans (notes_of_walk passes))
  refine ⟨_, exec_strokeEvent_alone alone, fun finished => ?_, fun goes uncovered spent => ?_, fun goes covered => ?_⟩
  · rw [walkCursor_finished _ _ _ _ _ _ finished] at walk
    have ends := finish.trans (Stroke.walkStroke_finished (q := z.upTo (max q.lastY y)) finished walk)
    subst hk
    refine ⟨?_, State.pulse_sends news fun h d => ?_⟩
    · rw [State.pulse_place_of_located runs placed_, ends]
      simp [held, Place.upTo]
    · rw [ends]
      exact came h d
  · rw [spent, show Config.walkBudget + 1 - 9 = 0 from rfl, walkCursor_spent _ _ _ _ _ (.inr uncovered)] at walk
    have ends := finish.trans (Stroke.walkStroke_overrun (q := z.upTo (max q.lastY y)) goes walk)
    subst hk
    refine ⟨?_, State.pulse_sends news fun h d => ?_⟩
    · rw [State.pulse_place_of_located runs placed_, ends]
      simp [held, Place.upTo]
    · rw [ends, Work.noted_note]
      exact or_congr (came h d) (and_iff_right rfl)
  · rw [walkCursor_covered _ _ _ _ _ _ goes covered] at walk
    have ends := finish.trans (Stroke.walkStroke_covered (q := z.upTo (max q.lastY y)) walk)
    obtain ⟨v', place', located', noted', ends'⟩ :=
      stands.finish_covered runs forward pattern kept tail zone goes covered
    rw [← hk] at ends'
    have extends_ : (((k.standing r).setPlace (z.upTo (max q.lastY y))).note passed r.head .motifDepth).Extends
        (fun h d => h = r.head ∧ d = .motifDepth ∧ deep) v' :=
      ⟨(Work.note_place ..).trans place'.symm, (Work.note_located ..).trans (located.trans located'.symm), fun h d => by
        rw [Work.noted_note, Work.setPlace_notes, noted, noted', passes]
        exact or_congr_right ⟨fun ⟨d, h, k⟩ => ⟨h, k, d⟩, fun ⟨h, k, d⟩ => ⟨d, h, k⟩⟩⟩
    have both : k.finish.Extends (fun h d => h = r.head ∧ d = .motifDepth ∧ deep)
        (((s.withPlace b z).pulseTaken b).strokeOf b).finish := by
      rw [ends, ends']
      exact extends_.placed
    subst hk
    have located'' := both.located.symm.trans placed_
    refine ⟨_, exec_strokeEvent_alone (alone.withPlace b z), State.bars_withPlace both.place both.located, ?_,
      State.pulse_sends news fun h d => ?_⟩
    · rw [State.pulse_place_of_located ((s.runsNext_withPlace b z).mpr runs) located'', ends']
      exact Stroke.placed_outcome ..
    · have goes_on := (State.pulse_sends (s := s.withPlace b z) (b := b) (fun _ => Iff.rfl) fun _ _ => Iff.rfl).2 h d
      exact (both.noted h d).trans (or_congr_left goes_on.symm)

end Sys2Proof.Machine
end

section
/-! PROOF. The stroke that enters a panel, leaving the one it is in, and the stroke that stays in its panel; with what a
located stroke comes to when it places nothing (R64 to R70, R79, R88). -/

namespace Sys2Proof.Machine

variable {s : State} {b : Bar} {k : Stroke} {w : Work} {r : PanelRecord}

/-! ### A located stroke that places nothing -/

/-- The outcome of a located stroke that places nothing (R70). -/
def Stroke.rests (k : Stroke) (r : PanelRecord) : StrokeOutcome :=
  if k.running then if (k.panelBar r).pattern = none then .idle else .held else .stopped

/-- A located stroke that is stopped, or not NORMAL or LONG, or has no pattern, engages nothing; a running one with a
pattern notes the rehearsal (R70, R86). -/
theorem Stroke.act_rests (located : w.located = some r)
    (rests : k.running = false ∨ k.strokeClass.forward = false ∨ (k.panelBar r).pattern = none) :
    k.act w = (w.note (k.running && (k.panelBar r).pattern.isSome && k.control.rehearsal) r.head .rehearsed).empty
      (k.rests r) := by
  unfold Stroke.act Stroke.runningStroke Stroke.rests
  rw [located]
  cases running : k.running with
  | false => rfl
  | true =>
    cases pattern : (k.panelBar r).pattern with
    | none =>
      simp only [pattern]
      rfl
    | some p =>
      have slow : k.strokeClass.forward = false := by simpa [running, pattern] using rests
      simp only [pattern, slow]
      rfl

/-- What a located stroke that places nothing leaves and sends. -/
theorem State.pulse_rests {u : Work} {told : StatusMessage → Prop} {noted : Word → DefectKind → Prop}
    (hu : ((s.pulseTaken b).strokeOf b).locate ((s.pulseTaken b).strokeOf b).start = u) (located : u.located = some r)
    (rests : ¬ s.RunsNext b ∨ ¬ s.ForwardNext b ∨ (r.bars.get b).pattern = none)
    (news : ∀ m, m ∈ u.news ↔ told m) (notes : ∀ h d, Noted u.notes h d ↔ noted h d) :
    (s.RunsNext b → (((s.pulseTaken b).evaluateStroke b).bars.get b).place = { u.place with
        engaged := 0
        previous := ⟨0, some r.head⟩
        outcome := if (r.bars.get b).pattern = none then .idle else .held })
      ∧ (¬ s.RunsNext b → (((s.pulseTaken b).evaluateStroke b).bars.get b).place = { u.place with
        engaged := 0
        previous := ⟨0, none⟩
        outcome := .stopped })
      ∧ s.Sends ((s.pulseTaken b).evaluateStroke b) b told (fun h d => noted h d
        ∨ h = r.head ∧ s.RunsNext b ∧ (r.bars.get b).pattern ≠ none ∧ s.rehearsalNext b = true ∧ d = .rehearsed) := by
  obtain ⟨k, hk⟩ : ∃ k, k = (s.pulseTaken b).strokeOf b := ⟨_, rfl⟩
  have running : k.running = true ↔ s.RunsNext b := hk ▸ State.strokeOf_running (s.pulseTaken b) b
  have forward : k.strokeClass.forward = true ↔ s.ForwardNext b := hk ▸ State.strokeOf_forward (s.pulseTaken b) b
  have reads : k.control.rehearsal = s.rehearsalNext b ∧ (k.panelBar r).pattern = (r.bars.get b).pattern := by
    subst hk
    exact ⟨rfl, rfl⟩
  have finish : k.finish = (u.note (k.running && (k.panelBar r).pattern.isSome && k.control.rehearsal) r.head
      .rehearsed).empty (k.rests r) := by
    rw [Stroke.finish, hk, hu, ← hk]
    refine Stroke.act_rests located (rests.imp (fun stops => ?_) (Or.imp (fun slow => ?_) fun none_ => ?_))
    · exact Bool.eq_false_iff.mpr (mt running.mp stops)
    · exact Bool.eq_false_iff.mpr (mt forward.mp slow)
    · exact reads.2.trans none_
  have place : (((s.pulseTaken b).evaluateStroke b).bars.get b).place = k.sentPlace k.finish := by
    rw [State.evaluateStroke_bar, ← hk]
  refine ⟨fun runs => ?_, fun stops => ?_, State.pulse_sends (fun m => ?_) fun h d => ?_⟩
  · have ends : k.finish.located = some r := by rw [finish, Work.empty_located, Work.note_located, located]
    rw [place, Stroke.sentPlace_of_located (running.mpr runs) ends, finish, Work.empty_place, Work.note_place,
      Stroke.rests, if_pos (running.mpr runs), reads.2]
    simp only [ite_self]
  · have stopped : k.running = false := Bool.eq_false_iff.mpr (mt running.mp stops)
    rw [place, Stroke.sentPlace, finish, Work.empty_place, Work.note_place, Stroke.rests, stopped]
    rfl
  · rw [← hk, finish, Work.empty_news, Work.note_news]
    exact news m
  · rw [← hk, finish, Work.empty_notes, Work.noted_note, notes, Bool.and_eq_true, Bool.and_eq_true, running, reads.1,
      reads.2, Option.isSome_iff_ne_none]
    exact or_congr_right ⟨fun ⟨⟨⟨runs, sews⟩, on⟩, here, kind⟩ => ⟨here, runs, sews, on, kind⟩,
      fun ⟨here, runs, sews, on, kind⟩ => ⟨⟨⟨runs, sews⟩, on⟩, here, kind⟩⟩

/-! ### Entering, leaving the panel the bar is in -/

/-- The work once the bar has left the panel it is in, if it is in one (R65, R66). -/
def Stroke.departed (k : Stroke) (w : Work) : Work :=
  match w.place.current with
  | none => w
  | some c => if c.presence = .inside then k.leave c w else w

theorem Stroke.departed_of_out (out : ∀ h, w.place.current ≠ some ⟨h, .inside⟩) : k.departed w = w := by
  unfold Stroke.departed
  split
  · rfl
  · rename_i c current
    obtain ⟨head, presence⟩ := c
    cases presence with
    | inside => exact absurd current (out head)
    | left => rfl

theorem Stroke.departed_of_in {h : Word} (current : w.place.current = some ⟨h, .inside⟩) :
    k.departed w = k.leave ⟨h, .inside⟩ w := by
  unfold Stroke.departed
  rw [current]
  rfl

/-- A stroke whose line lies in a newer panel than the bar's current one, or in its first, enters it (R64, R66). -/
theorem Stroke.locate_of_newer (covering : k.covering = some r)
    (newer : ∀ c, w.place.current = some c → 0 < webDist r.head c.head) : k.locate w = k.enter r (k.departed w) := by
  have other : ∀ c, w.place.current = some c → c.head ≠ r.head := fun c current same => by
    have ahead := newer c current
    simp [same, webDist] at ahead
  unfold Stroke.locate Stroke.departed
  rw [covering]
  cases current : w.place.current with
  | none => rfl
  | some c => exact (if_neg (other c current)).trans (if_pos (newer c current))

theorem Stroke.departed_place (k : Stroke) (w : Work) : ∃ c, (k.departed w).place = { w.place with current := c } := by
  by_cases inside : ∃ h, w.place.current = some ⟨h, .inside⟩
  · obtain ⟨h, current⟩ := inside
    exact ⟨_, by rw [Stroke.departed_of_in current, Stroke.leave_place]⟩
  · exact ⟨w.place.current, by rw [Stroke.departed_of_out (not_exists.mp inside)]⟩

theorem State.departed_news (s : State) (b : Bar) (m : StatusMessage) :
    m ∈ ((s.strokeOf b).departed (s.strokeOf b).start).news ↔ s.TellsLeaving b m := by
  by_cases inside : ∃ h, (s.bars.get b).place.current = some ⟨h, .inside⟩
  · obtain ⟨h, current⟩ := inside
    rw [Stroke.departed_of_in (w := (s.strokeOf b).start) current, Stroke.leave_news, State.tellsLeaving_iff current]
    exact or_iff_right List.not_mem_nil
  · rw [Stroke.departed_of_out (w := (s.strokeOf b).start) (not_exists.mp inside)]
    exact iff_of_false List.not_mem_nil fun ⟨r, within, _⟩ => State.not_inPanel (not_exists.mp inside) r within

theorem State.departed_noted (s : State) (b : Bar) (h : Word) (d : DefectKind) :
    Noted ((s.strokeOf b).departed (s.strokeOf b).start).notes h d ↔ s.NotesLeaving b h d ∨ s.NotesLate b h d := by
  rw [or_comm]
  by_cases inside : ∃ h, (s.bars.get b).place.current = some ⟨h, .inside⟩
  · obtain ⟨h', current⟩ := inside
    rw [Stroke.departed_of_in (w := (s.strokeOf b).start) current, Stroke.leave_noted, State.notesLeaving_iff current,
      State.start_noted]
    exact Iff.rfl
  · rw [Stroke.departed_of_out (w := (s.strokeOf b).start) (not_exists.mp inside), State.start_noted]
    exact (or_iff_left fun ⟨r, within, _⟩ => State.not_inPanel (not_exists.mp inside) r within).symm

/-- What a stroke that enters a panel has located (R67, R68). -/
structure State.Enters (s : State) (b : Bar) (r : PanelRecord) (u : Work) : Prop where
  located : u.located = some r
  running : s.RunsNext b → u.place = s.entered b r
  stopped : ¬ s.RunsNext b → u.place = { s.entered b r with stoppedInPanel := true }
  news : ∀ m, m ∈ u.news ↔ (r.bars.get b).pattern ≠ none
    ∧ (s.RunsNext b ∧ m = ⟨b, r.head, .sewing⟩ ∨ ¬ s.RunsNext b ∧ m = ⟨b, r.head, .short⟩) ∨ s.TellsLeaving b m
  noted : ∀ h d, Noted u.notes h d ↔ (h = r.head ∧ (r.bars.get b).pattern ≠ none ∧ ¬ s.RunsNext b ∧ d = .barShort)
    ∨ s.NotesLeaving b h d ∨ s.NotesLate b h d

theorem State.locate_enters (covers : s.Covers b r)
    (newer : ∀ c, (s.bars.get b).place.current = some c → 0 < webDist r.head c.head) :
    s.Enters b r ((s.strokeOf b).locate (s.strokeOf b).start) := by
  obtain ⟨k, hk⟩ : ∃ k, k = s.strokeOf b := ⟨_, rfl⟩
  have running : k.running = true ↔ s.RunsNext b := hk ▸ State.strokeOf_running s b
  have stopped : k.running = false ↔ ¬ s.RunsNext b := hk ▸ State.strokeOf_stopped s b
  have reads : k.bar = b ∧ (k.panelBar r).pattern = (r.bars.get b).pattern := by
    subst hk
    exact ⟨rfl, rfl⟩
  have enters : k.locate k.start = k.enter r (k.departed k.start) :=
    Stroke.locate_of_newer (hk ▸ (State.strokeOf_covering s b).mpr covers) (hk ▸ newer)
  have place : (k.enter r (k.departed k.start)).place = { s.entered b r with stoppedInPanel := !k.running } := by
    obtain ⟨c, departed⟩ := k.departed_place k.start
    rw [Stroke.enter_place, departed]
    subst hk
    rfl
  rw [← hk, enters]
  refine ⟨Stroke.enter_located, fun runs => ?_, fun stops => ?_, fun m => ?_, fun h d => ?_⟩
  · rw [place, running.mpr runs]
    rfl
  · rw [place, stopped.mpr stops]
    rfl
  · rw [Stroke.enter_news, running, stopped, reads.1, reads.2, or_comm]
    exact or_congr_right (hk ▸ State.departed_news s b m)
  · rw [Stroke.enter_noted, stopped, reads.2, or_comm]
    exact or_congr ⟨fun ⟨sews, stops, here, kind⟩ => ⟨here, sews, stops, kind⟩,
      fun ⟨here, sews, stops, kind⟩ => ⟨sews, stops, here, kind⟩⟩ (hk ▸ State.departed_noted s b h d)

/-! ### The stroke that goes on from the panel entered -/

theorem State.raiseIf_events_congr {u v : State} (h : u.events = v.events) (c : Bool) (e : Sticky) (d : Option Detail) :
    (u.raiseIf c e d).events = (v.raiseIf c e d).events := by
  unfold State.raiseIf
  split
  · rw [State.raise_events, State.raise_events, State.event, State.event, h]
  · exact h

/-- The events of a stroke do not depend on the place of the bar (R95, R107). -/
theorem State.events_withPlace (s : State) (b : Bar) (q : Place) :
    (s.evaluateStroke b).events = ((s.withPlace b q).evaluateStroke b).events := by
  simp only [State.evaluateStroke, State.send_events, State.get_withPlace]
  refine State.raiseIf_events_congr ?_ _ _ _
  refine State.raiseIf_events_congr ?_ _ _ _
  rfl

/-- A running stroke that enters a panel does what one that has just entered it does (R67). -/
theorem State.finish_extends (covers : s.Covers b r) (runs : s.RunsNext b)
    (newer : ∀ c, (s.bars.get b).place.current = some c → 0 < webDist r.head c.head) :
    (s.strokeOf b).finish.Extends (s.NotesLeaving b) ((s.withPlace b (s.entered b r)).strokeOf b).finish := by
  have enters := State.locate_enters covers newer
  have get := s.get_withPlace b (s.entered b r)
  have stands : (s.withPlace b (s.entered b r)).StandsIn b r := ⟨covers, by rw [get]; rfl⟩
  have runs' := (s.runsNext_withPlace b (s.entered b r)).mpr runs
  obtain ⟨k, hk⟩ : ∃ k, k = (s.withPlace b (s.entered b r)).strokeOf b := ⟨_, rfl⟩
  have fixed : k = { s.strokeOf b with state := (s.strokeOf b).state.withPlace b (s.entered b r) } :=
    hk ▸ s.strokeOf_withPlace b (s.entered b r)
  have running : k.running = true := hk ▸ (State.strokeOf_running _ b).mpr runs'
  have locate : k.locate k.start = k.stay r k.start := hk ▸ stands.locate
  have place : (k.stay r k.start).place = s.entered b r := by
    have start : k.start.place = s.entered b r := by rw [hk, State.start_withPlace]
    have y : k.y r.head = (s.entered b r).lastY := by rw [hk]; rfl
    rw [Stroke.stay_place, start, y, max_self, running]
    rfl
  have extends_ : ((s.strokeOf b).locate (s.strokeOf b).start).Extends (s.NotesLeaving b) (k.stay r k.start) := by
    refine ⟨(enters.running runs).trans place.symm, enters.located.trans Stroke.stay_located.symm, fun h d => ?_⟩
    rw [enters.noted, Stroke.stay_noted, running, hk, State.start_noted, State.notesLate_withPlace]
    simp [runs, or_comm]
  have act (w : Work) : k.act w = (s.strokeOf b).act w := by
    rw [fixed]
    exact Stroke.act_withPlace ..
  rw [← hk, Stroke.finish, Stroke.finish, locate, act]
  exact extends_.act

/-- A stroke in the panel the bar is in (R68). -/
theorem State.StandsIn.locate_stays (stands : s.StandsIn b r) :
    ∃ u, (s.strokeOf b).locate (s.strokeOf b).start = u ∧ u.located = some r
      ∧ (s.RunsNext b → u.place
        = { (s.bars.get b).place with lastY := max (s.bars.get b).place.lastY (s.yAt b r.head) })
      ∧ (¬ s.RunsNext b → u.place = { (s.bars.get b).place with
        lastY := max (s.bars.get b).place.lastY (s.yAt b r.head)
        stoppedInPanel := true })
      ∧ (∀ m, m ∈ u.news ↔ (¬ s.RunsNext b ∧ (r.bars.get b).pattern ≠ none
        ∧ (s.bars.get b).place.stoppedInPanel = false) ∧ m = ⟨b, r.head, .short⟩)
      ∧ ∀ h d, Noted u.notes h d ↔ h = r.head ∧ (¬ s.RunsNext b ∧ (r.bars.get b).pattern ≠ none
        ∧ (s.bars.get b).place.stoppedInPanel = false) ∧ d = .barShort ∨ s.NotesLate b h d := by
  have running := State.strokeOf_running s b
  have stopped := State.strokeOf_stopped s b
  have reads : (s.strokeOf b).start.place = (s.bars.get b).place ∧ (s.strokeOf b).start.news = []
      ∧ ((s.strokeOf b).panelBar r).pattern = (r.bars.get b).pattern ∧ (s.strokeOf b).bar = b := ⟨rfl, rfl, rfl, rfl⟩
  obtain ⟨place, news, pattern, bar⟩ := reads
  refine ⟨_, stands.locate, Stroke.stay_located, fun runs => ?_, fun stops => ?_, fun m => ?_, fun h d => ?_⟩
  · rw [Stroke.stay_place, running.mpr runs]
    rfl
  · rw [Stroke.stay_place, stopped.mpr stops]
    rfl
  · rw [Stroke.stay_news, stopped, place, news, pattern, bar]
    simp only [List.not_mem_nil, false_or, and_assoc]
    exact and_congr_right fun _ => and_left_comm
  · rw [Stroke.stay_noted, stopped, place, pattern, State.start_noted, or_comm]
    exact or_congr_left ⟨fun ⟨stops, first, sews, here, kind⟩ => ⟨here, ⟨stops, sews, first⟩, kind⟩,
      fun ⟨here, ⟨stops, sews, first⟩, kind⟩ => ⟨stops, first, sews, here, kind⟩⟩

/-- An advance below SL_MIN, or below 0, is no stroke of class NORMAL or LONG (R9). -/
theorem State.not_forwardNext_iff (s : State) (b : Bar) :
    ¬ s.ForwardNext b ↔ ∀ adv, s.AdvanceIs b adv → adv < s.params.slMin ∨ adv < 0 := by
  unfold State.ForwardNext
  push Not
  exact forall_congr' fun adv => forall_congr' fun _ => ⟨.inl, fun low => low.elim id (by omega)⟩

theorem State.Sends.congr {t : State} {told told' : StatusMessage → Prop} {noted noted' : Word → DefectKind → Prop}
    (sends : s.Sends t b told noted) (news : ∀ m, told m ↔ told' m) (notes : ∀ h d, noted h d ↔ noted' h d) :
    s.Sends t b told' noted' :=
  ⟨fun m => (sends.1 m).trans (news m), fun h d => (sends.2 h d).trans (notes h d)⟩

theorem told_running {sews runs sewing short leaving : Prop} (h : runs) :
    sews ∧ (runs ∧ sewing ∨ ¬ runs ∧ short) ∨ leaving ↔ sews ∧ sewing ∨ leaving := by
  simp [h]

theorem noted_entering {here sews runs short on rehearsed leaving late : Prop} :
    ((here ∧ sews ∧ ¬ runs ∧ short) ∨ leaving ∨ late) ∨ here ∧ runs ∧ sews ∧ on ∧ rehearsed
      ↔ here ∧ sews ∧ (¬ runs ∧ short ∨ runs ∧ on ∧ rehearsed) ∨ leaving ∨ late := by
  tauto

theorem noted_staying {here sews runs stops short on rehearsed late : Prop} :
    (here ∧ stops ∧ short ∨ late) ∨ here ∧ runs ∧ sews ∧ on ∧ rehearsed
      ↔ here ∧ (stops ∧ short ∨ runs ∧ sews ∧ on ∧ rehearsed) ∨ late := by
  tauto

/-- Settles O35: the stroke that enters by whether it places something, and the one that stays and places nothing. -/
theorem strokeEntersPanel : Obligations.StrokeEntersPanel := by
  unfold Obligations.StrokeEntersPanel
  intro s b r alone covers q sews rests slow
  have slow_iff : slow ↔ ¬ s.ForwardNext b := (s.not_forwardNext_iff b).symm
  refine ⟨fun newer => ⟨fun nothing => ?_, fun runs => ?_⟩, fun inside nothing => ?_⟩
  · have enters := State.locate_enters (s := s.pulseTaken b) covers newer
    obtain ⟨running, stopped, sends⟩ := State.pulse_rests (s := s) rfl enters.located
      (nothing.imp_right fun low => .inl (slow_iff.mp low)) enters.news enters.noted
    refine ⟨_, exec_strokeEvent_alone alone, fun runs => ?_, fun stops => ?_, ?_⟩
    · rw [running runs, enters.running runs]
      rfl
    · rw [stopped stops, enters.stopped stops]
      rfl
    · exact sends.congr (fun _ => Iff.rfl) fun _ _ => noted_entering
  · have both : ((s.pulseTaken b).strokeOf b).finish.Extends (s.NotesLeaving b)
        (((s.withPlace b (s.entered b r)).pulseTaken b).strokeOf b).finish :=
      State.finish_extends (s := s.pulseTaken b) covers runs newer
    have enters := State.locate_enters (s := s.pulseTaken b) covers newer
    refine ⟨_, _, exec_strokeEvent_alone alone, exec_strokeEvent_alone (alone.withPlace b _),
      State.bars_withPlace (s := s.pulseTaken b) both.place both.located, State.events_withPlace (s.pulseTaken b) b _,
      State.pulse_sends (fun m => ?_) fun h d => ?_⟩
    · have news : m ∈ ((s.pulseTaken b).strokeOf b).finish.news ↔ _ := Stroke.act_news ▸ enters.news m
      exact news.trans (told_running runs)
    · have goes_on := (State.pulse_sends (s := s.withPlace b (s.entered b r)) (b := b) (fun _ => Iff.rfl)
        fun _ _ => Iff.rfl).2 h d
      exact (both.noted h d).trans (or_congr_left goes_on.symm)
  · obtain ⟨u, stays, located, runs, stops, news, notes⟩ := State.StandsIn.locate_stays (s := s.pulseTaken b) (r := r)
      ⟨covers, inside⟩
    obtain ⟨running, stopped, sends⟩ := State.pulse_rests (s := s) stays located
      (nothing.imp_right (Or.imp slow_iff.mp not_not.mp)) news notes
    refine ⟨_, exec_strokeEvent_alone alone, fun h => ?_, fun h => ?_, ?_⟩
    · rw [running h, runs h]
      rfl
    · rw [stopped h, stops h]
      rfl
    · exact sends.congr (fun _ => Iff.rfl) fun _ _ => noted_staying

end Sys2Proof.Machine
end

section
/-! PROOF. A stroke that finds messages of its bar in flight: what they leave for the stroke to read; the control
fields, the drive, the select transfer and the events at the stroke boundary (R89, R92, R95, R102 to R107). -/

namespace Sys2Proof.Machine

variable {s : State} {b : Bar} {k : Stroke} {w : Work} {r : PanelRecord}

/-! ### What the messages taken leave to the stroke -/

theorem State.takeConsumption_event {e : Sticky} (low : e ≠ .threadLow) (out : e ≠ .threadOut) (m : ConsumptionNotice) :
    (s.takeConsumption m).event e = s.event e := by
  have frame := State.takeConsumption_frame (s := s) (m := m) rfl
  have quiet := s.drawn_raisedFor m (threadDrawn m.advance (s.params.threadFactor.get m.bar)) e
  rw [frame]
  refine quiet.eq_of_none fun n raised_ => ?_
  rw [DrawFinding.raises_of_ne _ low out] at raised_
  exact Bool.false_ne_true raised_.2

/-- SELECT_LATE is raised by no receiver of a message: by a bar's own stroke alone (R107). -/
theorem State.deliver_selectLate (m : Message) : (s.deliver m).event .selectLate = s.event .selectLate := by
  cases m with
  | status m => simp [State.deliver, State.event]
  | notice n =>
    have folded := State.fold_event_of_ne (s := s) (e := .selectLate) (by decide) n.head (some n.bar) n.kinds n.y
    change (s.takeNotice n).event .selectLate = _
    unfold State.takeNotice
    split
    · rfl
    · dsimp only
      split
      · exact (State.event_raise_of_ne _ _ (by decide)).trans folded
      · exact folded
  | consumption n => exact State.takeConsumption_event (by decide) (by decide) n
  | scan r =>
    change (s.takeScanRequest r).event .selectLate = _
    rw [State.takeScanRequest_frame]
    exact (s.overtakeScan_event r.bar .selectLate).trans (if_neg fun late => absurd late.2 (by decide))

theorem State.flush_selectLate (b : Bar) : (s.flush b).event .selectLate = s.event .selectLate :=
  State.flush_keeps (State.event · .selectLate) (fun _ m _ => State.deliver_selectLate m) (fun _ _ _ => rfl)

/-- The state a stroke is evaluated in: its pulse taken, and the bar's messages. -/
def State.strokeReady (s : State) (b : Bar) : State := (s.pulseTaken b).flush b

theorem State.strokeReady_bars (s : State) (b : Bar) : (s.strokeReady b).bars = s.bars := State.flush_bars b

theorem State.strokeReady_inputs (s : State) (b : Bar) : (s.strokeReady b).inputs = (s.pulseTaken b).inputs :=
  State.flush_inputs _ b

theorem State.strokeReady_operates (s : State) (b : Bar) : (s.strokeReady b).inputs.operates = s.inputs.operates := by
  rw [State.strokeReady_inputs]
  rfl

theorem State.strokeReady_params (s : State) (b : Bar) : (s.strokeReady b).params = s.params := State.flush_params _ b

theorem State.strokeReady_store (s : State) (b : Bar) : (s.strokeReady b).store = s.store := State.flush_store _ b

theorem State.strokeReady_w (s : State) (b : Bar) : (s.strokeReady b).w = s.w := State.flush_w _ b

theorem State.strokeReady_runsNext (s : State) (b : Bar) : (s.strokeReady b).RunsNext b ↔ s.RunsNext b := by
  unfold State.RunsNext
  rw [State.strokeReady_bars, State.strokeReady_inputs]
  exact Iff.rfl

theorem State.strokeReady_advanceIs (s : State) (b : Bar) (adv : Int) :
    (s.strokeReady b).AdvanceIs b adv ↔ s.AdvanceIs b adv := by
  unfold State.AdvanceIs
  rw [State.strokeReady_bars, State.strokeReady_w]

theorem State.strokeReady_forwardNext (s : State) (b : Bar) : (s.strokeReady b).ForwardNext b ↔ s.ForwardNext b := by
  simp only [State.ForwardNext, State.strokeReady_advanceIs, State.strokeReady_params]

theorem State.strokeReady_longNext (s : State) (b : Bar) : (s.strokeReady b).LongNext b ↔ s.LongNext b := by
  simp only [State.LongNext, State.strokeReady_advanceIs, State.strokeReady_params]

theorem State.strokeReady_rehearsalNext (s : State) (b : Bar) :
    (s.strokeReady b).rehearsalNext b = s.rehearsalNext b := by
  rw [State.rehearsalNext, State.strokeReady_bars, State.rehearsalNext]

theorem State.strokeReady_overrideNext (s : State) (b : Bar) : (s.strokeReady b).overrideNext b = s.overrideNext b := by
  rw [State.overrideNext, State.strokeReady_bars, State.overrideNext]

theorem State.strokeReady_yAt (s : State) (b : Bar) : (s.strokeReady b).yAt b = s.yAt b := by
  funext head
  simp only [State.yAt, State.linePosition, State.strokeReady_w, State.strokeReady_params]

theorem State.strokeReady_over (s : State) (b : Bar) (r : PanelRecord) : (s.strokeReady b).Over b r ↔ s.Over b r := by
  rw [State.Over, State.strokeReady_yAt, State.Over]

theorem exec_strokeEvent_ready (h : s.StrokeArrives b) :
    exec (.strokeEvent b) s = .next ((s.strokeReady b).evaluateStroke b) := exec_strokeEvent_arrives h

/-! ### The stroke boundary -/

/-- The bar's control fields after its stroke (R95). -/
theorem State.evaluateStroke_control (s : State) (b : Bar) :
    let c := (s.bars.get b).control
    let c' := ((s.evaluateStroke b).bars.get b).control
    c' = {
      run := c'.run
      pendingRun := none
      latched := c.latched
      requested := c.pendingRun = some .stop || (c.pendingRun = none && c.requested)
      override := s.overrideNext b
      pendingOverride := none
      rehearsal := s.rehearsalNext b
      pendingRehearsal := none
      transfer := c'.transfer
      driveCommand := c'.driveCommand } := by
  have requested (c : Control) : c.applyStaged.requested
      = (decide (c.pendingRun = some .stop) || (decide (c.pendingRun = none) && c.requested)) := by
    unfold Control.applyStaged
    rcases c.pendingRun with _ | (_ | _) <;> simp
  dsimp only
  rw [State.evaluateStroke_bar, ← requested]
  unfold Stroke.sentControl
  split <;> rfl

/-- What a running stroke sends (R102, R103, R105). -/
theorem State.evaluateStroke_runs (runs : s.RunsNext b) :
    let c' := ((s.evaluateStroke b).bars.get b).control
    let q' := ((s.evaluateStroke b).bars.get b).place
    c'.run = .running ∧ c'.driveCommand = some (BitVec.ofInt 16 q'.x) ∧ c'.transfer = some q'.previous
      ∧ q'.previous.needles = if s.rehearsalNext b then 0 else q'.engaged := by
  have running := (State.strokeOf_running s b).mpr runs
  have run : (s.strokeOf b).control.run = if (s.strokeOf b).running then .running else .stopped := rfl
  dsimp only
  rw [State.evaluateStroke_bar, Stroke.sentControl, Stroke.sentPlace, running]
  exact ⟨run.trans (if_pos running), rfl, rfl, rfl⟩

theorem Stroke.locate_x : (k.locate w).place.x = w.place.x := by
  have gap : (k.gap w).place.x = w.place.x := by
    obtain same | ⟨c, left⟩ := Stroke.gap_place (k := k) (w := w)
    · rw [same]
    · rw [left]
  unfold Stroke.locate
  split
  · exact gap
  · rename_i r covering
    split
    · rw [Stroke.enter_place]
      rfl
    · rename_i c current
      split_ifs
      · rw [Stroke.stay_place]
      · rfl
      · rw [Stroke.enter_place, Stroke.leave_place]
        rfl
      · rw [Stroke.enter_place]
        rfl
      · exact gap

/-- What a stopped stroke leaves (R70, R95, R102). -/
theorem State.evaluateStroke_stops (stops : ¬ s.RunsNext b) :
    let c' := ((s.evaluateStroke b).bars.get b).control
    let q' := ((s.evaluateStroke b).bars.get b).place
    c'.run = .stopped ∧ c'.driveCommand = (s.bars.get b).control.driveCommand ∧ c'.transfer = none
      ∧ q'.previous = ⟨0, none⟩ ∧ q'.engaged = 0 ∧ q'.x = (s.bars.get b).place.x ∧ q'.outcome = .stopped := by
  have stopped := (State.strokeOf_stopped s b).mpr stops
  have run : (s.strokeOf b).control.run = if (s.strokeOf b).running then .running else .stopped := rfl
  have x : ((s.strokeOf b).locate (s.strokeOf b).start).place.x = (s.bars.get b).place.x := Stroke.locate_x
  dsimp only
  rw [State.evaluateStroke_bar, Stroke.sentControl, Stroke.sentPlace, Stroke.finish_of_stopped stopped, stopped]
  exact ⟨run.trans (if_neg (by simp [stopped])), rfl, rfl, rfl, rfl, x, rfl⟩

/-- BAR_HALTED is raised when a RUNNING bar stops for a reason other than REQUESTED (R95). -/
theorem haltsBar_iff (s : State) (b : Bar) : haltsBar s.inputs b (s.bars.get b).control = true
    ↔ (s.bars.get b).control.run = .running ∧ ¬ s.RunsNext b
      ∧ ((s.bars.get b).control.latched ≠ ⟨false, false, false, false⟩ ∨ s.inputs.freeze = true
        ∨ s.inputs.driveFault.get b = true) := by
  have latched (l : Latched) : l.any = true ↔ l ≠ ⟨false, false, false, false⟩ := by
    obtain ⟨select, defect, encoder, link⟩ := l
    cases select <;> cases defect <;> cases encoder <;> cases link <;> decide
  have kept : (s.bars.get b).control.applyStaged.latched = (s.bars.get b).control.latched := rfl
  rw [haltsBar, Bool.and_eq_true, Bool.and_eq_true, decide_eq_true_eq, Bool.not_eq_true', ← Bool.not_eq_true,
    strokeRuns_iff, and_assoc, HaltReasons.beyondRequested, haltReasons, Bool.or_eq_true, Bool.or_eq_true, kept,
    latched, or_assoc]

/-- The events a stroke raises (R95, R107). -/
theorem State.evaluateStroke_event (s : State) (b : Bar) (e : Sticky) : (s.evaluateStroke b).event e
    = if (s.bars.get b).control.transfer.isSome = true ∧ e = .selectLate then raised (s.event .selectLate) (.bar b)
      else if haltsBar s.inputs b (s.bars.get b).control = true ∧ e = .barHalted then
        raised (s.event .barHalted) (.bar b)
      else s.event e := by
  have before (c : BarContext) : (s.setBar b c).event = s.event := rfl
  have sent (u : State) (ms : List Message) : (u.send ms).event = u.event := rfl
  simp only [State.evaluateStroke, sent, State.event_raiseIf, before]
  by_cases late : (s.bars.get b).control.transfer.isSome = true ∧ e = .selectLate
  · rw [if_pos late, if_pos late, if_neg (by simp)]
    rfl
  · rw [if_neg late, if_neg late]
    rfl

/-- Settles O32: the stroke boundary, read off the state with the bar's messages taken. -/
theorem strokeSettlesControl : Obligations.StrokeSettlesControl := by
  unfold Obligations.StrokeSettlesControl
  intro s b arrives c
  have bars := s.strokeReady_bars b
  have runs_iff := s.strokeReady_runsNext b
  have control := (s.strokeReady b).evaluateStroke_control b
  have event (e : Sticky) := (s.strokeReady b).evaluateStroke_event b e
  have halted : (s.strokeReady b).event .barHalted = s.event .barHalted := State.flush_barHalted b
  have late : (s.strokeReady b).event .selectLate = s.event .selectLate := State.flush_selectLate b
  have halts_iff := haltsBar_iff (s.strokeReady b) b
  dsimp only at control
  rw [bars, s.strokeReady_overrideNext, s.strokeReady_rehearsalNext] at control
  rw [runs_iff, bars, s.strokeReady_inputs] at halts_iff
  simp only [bars] at event
  refine ⟨_, exec_strokeEvent_ready arrives, control, fun runs => ?_, fun stops => ?_, fun halts => ?_, fun goes => ?_,
    fun transfer => ?_, fun idle => ?_⟩
  · obtain ⟨run, drive, transfer, needles⟩ := State.evaluateStroke_runs (runs_iff.mpr runs)
    rw [s.strokeReady_rehearsalNext] at needles
    refine ⟨run, drive, fun n hn => ?_, transfer, needles⟩
    rw [State.driveBit, if_pos hn, State.driveOut, State.evaluateStroke_inputs, s.strokeReady_operates,
      if_pos arrives.1, drive]
    rfl
  · have stopped := State.evaluateStroke_stops (mt runs_iff.mp stops)
    dsimp only at stopped
    rwa [bars] at stopped
  · rw [event, if_neg (by simp), s.strokeReady_inputs, if_pos ⟨halts_iff.mpr halts, rfl⟩, halted]
    rfl
  · rw [event, if_neg (by simp), s.strokeReady_inputs, if_neg fun halts => goes (halts_iff.mp halts.1), halted]
  · rw [event, if_pos ⟨Option.isSome_iff_ne_none.mpr transfer, rfl⟩, late]
    rfl
  · rw [event, if_neg fun some_ => Option.isSome_iff_ne_none.mp some_.1 idle, if_neg (by simp), late]

end Sys2Proof.Machine
end

section
/-! PROOF. What the stages of a stroke do to the bar: where it is located, how far X moves, and which needles it engages
(R64 to R66, R70, R78, R83 to R86, R102). -/

namespace Sys2Proof.Machine

variable {s : State} {b : Bar} {k : Stroke} {w : Work} {r : PanelRecord}

/-! ### Where the stroke is located -/

/-- A gap stroke does not bring the bar into a panel. -/
theorem Stroke.gap_inside {h : Word} (inside : (k.gap w).place.current = some ⟨h, .inside⟩) :
    w.place.current = some ⟨h, .inside⟩ := by
  obtain same | ⟨c, left⟩ := Stroke.gap_place (k := k) (w := w)
  · rwa [← same]
  · rw [left] at inside
    cases inside

/-- The stroke is located in the panel under the bar's line that it is in after the location (R64 to R66). -/
theorem Stroke.locate_located_iff (nowhere : w.located = none) : (k.locate w).located = some r
    ↔ k.covering = some r ∧ (k.locate w).place.current = some ⟨r.head, .inside⟩ := by
  have gap_nowhere : ¬ (k.gap w).located = some r := by rw [Stroke.gap_located, nowhere]; exact nofun
  unfold Stroke.locate
  cases covering : k.covering with
  | none => exact iff_of_false gap_nowhere nofun
  | some q =>
    have enters (v : Work) : (k.enter q v).located = some r
        ↔ some q = some r ∧ (k.enter q v).place.current = some ⟨r.head, .inside⟩ := by
      rw [Stroke.enter_located, Stroke.enter_place]
      exact ⟨fun same => ⟨same, by cases same; rfl⟩, fun both => both.1⟩
    dsimp only
    cases current : w.place.current with
    | none => exact enters w
    | some c =>
      dsimp only
      by_cases same : c.head = q.head
      · rw [if_pos same]
        by_cases inside : c.presence = .inside
        · rw [if_pos inside, Stroke.stay_located, Stroke.stay_place, current, ← inside]
          refine ⟨fun here => ⟨here, ?_⟩, fun both => both.1⟩
          cases here
          rw [← same]
        · rw [if_neg inside, nowhere, current]
          exact iff_of_false nofun fun both => inside (congrArg CurrentPanel.presence (Option.some.inj both.2))
      · rw [if_neg same]
        by_cases newer : 0 < webDist q.head c.head
        · rw [if_pos newer]
          exact enters _
        · rw [if_neg newer]
          refine iff_of_false gap_nowhere fun ⟨here, inside⟩ => same ?_
          cases here
          exact congrArg CurrentPanel.head (Option.some.inj (current.symm.trans (Stroke.gap_inside inside)))

/-! ### What the placement does to the bar -/

theorem walkCursor_walked (st : Store) (own : Option PatternId) (y : Int) (budget : Nat) (q : Place) (deep : Bool) :
    q.Walked (walkCursor st own y budget q deep).1 := by
  induction budget generalizing q deep with
  | zero =>
    unfold walkCursor
    cases q.cursor with
    | none => exact .rfl
    | some c =>
      dsimp only
      split_ifs <;> exact .rfl
  | succ budget ih =>
    unfold walkCursor
    cases q.cursor with
    | none => exact .rfl
    | some c =>
      dsimp only
      split_ifs
      · exact .rfl
      · exact .rfl
      · exact (walkStep_walked st own y c q).trans (ih _ _)

/-- What a stroke does to the place it is located with: it stays where it is, X moves by at most a step towards a target
within the travel limits, and only when it is PLACED, and the engaged set is empty or formed from a segment set. -/
structure Stroke.Acts (k : Stroke) (located : Option PanelRecord) (q z : Place) : Prop where
  current : z.current = q.current
  previous : z.previous = q.previous
  moves : z.x = q.x ∨ z.outcome = .placed ∧ ∃ target, z.x = moveTowards (k.state.params.stepMax.get k.bar)
    (clampTo (k.state.params.xMin.get k.bar) (k.state.params.xMax.get k.bar) target) q.x
  engages : z.engaged = 0 ∨ ∃ r segment, located = some r ∧ z.engaged = k.engage r segment

theorem Place.Walked.acts {o : Option PanelRecord} {q a z : Place} (walked : q.Walked a) (acts : k.Acts o a z) :
    k.Acts o q z where
  current := acts.current.trans walked.current
  previous := acts.previous.trans walked.previous
  moves := by
    rw [← walked.x]
    exact acts.moves
  engages := acts.engages

theorem Work.empty_acts (w : Work) (o : StrokeOutcome) (l : Option PanelRecord) : k.Acts l w.place (w.empty o).place :=
  ⟨rfl, rfl, .inl rfl, .inl rfl⟩

theorem Stroke.tailStroke_acts : k.Acts (some r) w.place (k.tailStroke r w).place := by
  unfold Stroke.tailStroke
  dsimp only
  split
  · exact ⟨rfl, rfl, .inl rfl, .inr ⟨r, _, rfl, rfl⟩⟩
  · exact w.empty_acts .postTie _

theorem patternPosition_walked (e : SegEntry) (y : Int) (q : Place) : q.Walked (patternPosition e y q).1 := by
  cases e <;> exact ⟨rfl, rfl, rfl, rfl, rfl, rfl⟩

theorem Stroke.placed_acts : k.Acts (some r) w.place (k.placed r w).place := by
  have walked := patternPosition_walked (k.state.store.under w.place.cursor) (k.y r.head) w.place
  cases position : patternPosition (k.state.store.under w.place.cursor) (k.y r.head) w.place with
  | mk q offset =>
    rw [position] at walked
    rw [Stroke.placed_place rfl position]
    exact walked.acts ⟨rfl, rfl, .inr ⟨rfl, _, rfl⟩, .inr ⟨r, _, rfl, rfl⟩⟩

theorem Stroke.walkStroke_acts : k.Acts (some r) w.place (k.walkStroke r w).place := by
  have walked := walkCursor_walked k.state.store (k.panelBar r).pattern (k.y r.head) Config.walkBudget w.place false
  unfold Stroke.walkStroke
  dsimp only
  split_ifs
  · refine walked.acts ?_
    have acts := Stroke.placed_acts (k := k) (r := r) (w := (w.setPlace (walkCursor k.state.store (k.panelBar r).pattern
      (k.y r.head) Config.walkBudget w.place false).1).note (walkCursor k.state.store (k.panelBar r).pattern
      (k.y r.head) Config.walkBudget w.place false).2.1 r.head .motifDepth)
    rwa [Work.note_place] at acts
  · rw [Work.empty_place, Work.note_place]
    exact walked.acts ⟨rfl, rfl, .inl rfl, .inl rfl⟩
  · rw [Work.note_place, Work.empty_place, Work.note_place]
    exact walked.acts ⟨rfl, rfl, .inl rfl, .inl rfl⟩

theorem Stroke.placement_acts : k.Acts (some r) w.place (k.placement r w).place := by
  have noted : (w.note (k.strokeClass = .long) r.head .longStitch).place = w.place := Work.note_place ..
  unfold Stroke.placement
  dsimp only
  split_ifs
  · exact noted ▸ Stroke.tailStroke_acts
  · obtain ⟨current, previous, moves, engages⟩ := Stroke.tailStroke_acts (k := k) (r := r)
      (w := (w.note (k.strokeClass = .long) r.head .longStitch).setPlace
        { (w.note (k.strokeClass = .long) r.head .longStitch).place with tail := .tie 0 })
    rw [noted] at current previous moves engages ⊢
    exact ⟨current, previous, moves, engages⟩
  · exact noted ▸ Work.empty_acts ..
  · exact noted ▸ Stroke.walkStroke_acts

/-- A stroke that engages needles is a running placement stroke of class NORMAL or LONG in a panel with a pattern for
the bar (R70, R86). -/
theorem Stroke.act_engages (n : NeedleNo) (engaged : (k.act w).place.engaged.getLsbD n.val = true) :
    k.running = true ∧ k.strokeClass.forward = true ∧ ∃ r segment, w.located = some r ∧ (k.panelBar r).pattern ≠ none
      ∧ (k.engage r segment).getLsbD n.val = true := by
  have empty (v : Work) (o : StrokeOutcome) : ¬ (v.empty o).place.engaged.getLsbD n.val = true := by
    simp [Work.empty_place]
  revert engaged
  unfold Stroke.act Stroke.runningStroke
  split
  · rename_i running
    split
    · exact fun engaged => absurd engaged (empty _ _)
    · rename_i r located
      dsimp only
      split_ifs with none_ forward
      · exact fun engaged => absurd engaged (empty _ _)
      · intro engaged
        refine ⟨running, forward, r, ?_⟩
        obtain nothing | ⟨r', segment, same, formed⟩ :=
          (Stroke.placement_acts (k := k) (r := r) (w := w.note k.control.rehearsal r.head .rehearsed)).engages
        · simp [nothing] at engaged
        · obtain rfl := Option.some.inj same
          rw [formed] at engaged
          exact ⟨segment, located, fun missing => none_ (by rw [missing]; rfl), engaged⟩
      · exact fun engaged => absurd engaged (empty _ _)
  · exact fun engaged => absurd engaged (empty _ _)

/-- What a stroke does to the place it is located with. -/
theorem Stroke.act_acts (k : Stroke) (w : Work) : k.Acts w.located w.place (k.act w).place := by
  unfold Stroke.act Stroke.runningStroke
  cases located : w.located with
  | none =>
    dsimp only
    split <;> exact w.empty_acts _ _
  | some r =>
    have noted : (w.note k.control.rehearsal r.head .rehearsed).place = w.place := Work.note_place ..
    dsimp only
    split_ifs
    · exact w.empty_acts _ _
    · exact noted ▸ Stroke.placement_acts
    · exact noted ▸ Work.empty_acts ..
    · exact w.empty_acts _ _

theorem moveTowards_near (step : Nat) (target x : Int) : (moveTowards step target x - x).natAbs ≤ step := by
  unfold moveTowards
  split_ifs <;> omega

/-- Settles O33: the stroke is located, and acts, in the state with the bar's messages taken. -/
theorem strokeActsWithinBounds : Obligations.StrokeActsWithinBounds := by
  unfold Obligations.StrokeActsWithinBounds
  intro s b arrives
  obtain ⟨v, hv⟩ : ∃ v, v = s.strokeReady b := ⟨_, rfl⟩
  have bars : v.bars = s.bars := hv ▸ s.strokeReady_bars b
  have params : v.params = s.params := hv ▸ s.strokeReady_params b
  have store : v.store = s.store := hv ▸ s.strokeReady_store b
  have acts := (v.strokeOf b).act_acts ((v.strokeOf b).locate (v.strokeOf b).start)
  have start : ((v.strokeOf b).locate (v.strokeOf b).start).place.x = (s.bars.get b).place.x :=
    Stroke.locate_x.trans (bars ▸ rfl)
  have place : ((v.evaluateStroke b).bars.get b).place = (v.strokeOf b).sentPlace (v.strokeOf b).finish := by
    rw [State.evaluateStroke_bar]
  have moves := acts.moves
  rw [start] at moves
  change _ ∨ _ ∧ ∃ target, _ = moveTowards (v.params.stepMax.get b)
    (clampTo (v.params.xMin.get b) (v.params.xMax.get b) target) _ at moves
  rw [params] at moves
  refine ⟨v.evaluateStroke b, hv ▸ exec_strokeEvent_ready arrives, fun low high limits => ?_, fun other => ?_,
    fun n engaged => ?_⟩
  · rw [place]
    change _ ≤ (v.strokeOf b).finish.place.x ∧ (v.strokeOf b).finish.place.x ≤ _
      ∧ ((v.strokeOf b).finish.place.x - _).natAbs ≤ _
    obtain same | ⟨_, target, moved⟩ := moves
    · rw [Stroke.finish, same]
      exact ⟨low, high, by simp⟩
    · rw [Stroke.finish, moved]
      obtain ⟨above, below⟩ := moveTowards_bounds (s.params.stepMax.get b) (clampTo_bounds limits target) ⟨low, high⟩
      exact ⟨above, below, moveTowards_near ..⟩
  · rw [place] at other ⊢
    exact moves.resolve_right fun moved => other moved.1
  · rw [place] at engaged ⊢
    have running : (v.strokeOf b).running = true := by
      by_contra stopped
      rw [Stroke.sentPlace, if_neg stopped] at engaged
      simp [SentFrame.blank] at engaged
    have frame : ((v.strokeOf b).sentPlace (v.strokeOf b).finish).previous
        = ⟨if s.rehearsalNext b then 0 else (v.strokeOf b).finish.place.engaged,
          (v.strokeOf b).finish.located.map (·.head)⟩ := by
      rw [Stroke.sentPlace, if_pos running, ← s.strokeReady_rehearsalNext, ← hv]
      rfl
    have sewn : s.rehearsalNext b = false ∧ (v.strokeOf b).finish.place.engaged.getLsbD n.val = true := by
      rw [frame] at engaged
      cases on : s.rehearsalNext b with
      | true => simp [on] at engaged
      | false => exact ⟨rfl, by simpa [on] using engaged⟩
    obtain ⟨_, forward, r, segment, located, pattern, formed⟩ := Stroke.act_engages n sewn.2
    obtain ⟨covering, inside⟩ := (Stroke.locate_located_iff rfl).mp located
    obtain ⟨pre, post, table, lies, _⟩ := (v.strokeOf_covering b).mp covering
    obtain ⟨_, unaborted, width, needle, free⟩ := (v.getLsbD_engage b r segment n).mp formed
    refine ⟨(s.strokeReady_runsNext b).mp (hv ▸ (v.strokeOf_running b).mp running),
      (s.strokeReady_forwardNext b).mp (hv ▸ (v.strokeOf_forward b).mp forward), sewn.1, r, ?_, ?_, ?_,
      (s.strokeReady_over b r).mp (hv ▸ lies), pattern, unaborted, fun w hw => store ▸ width w hw, ?_, ?_⟩
    · rw [State.evaluateStroke_table, table]
      simp
    · rw [frame, Stroke.finish, Stroke.act_located, located]
      rfl
    · exact acts.current.trans inside
    · have needles : (v.evaluateStroke b).needle = v.needle := by
        funext c m
        simp [State.needle]
      rwa [needles]
    · rwa [← s.strokeReady_overrideNext, ← hv]

end Sys2Proof.Machine
end

section
/-! PROOF. What a stroke notes, kind by kind, and that it keeps one set of kinds for each panel and tells in its own
bar's name (R70, R71, R74, R82, R83, R86, R88, R107). -/

namespace Sys2Proof.Machine

variable {s : State} {b : Bar} {k : Stroke} {w : Work} {r : PanelRecord}

/-! ### One set for each panel, and the bar's own name -/

/-- A work that holds one set of kinds for each panel noted, and status messages of the stroke's bar alone (R88). -/
structure Work.Fit (k : Stroke) (w : Work) : Prop where
  single : (w.notes.map Prod.fst).Nodup
  own : ∀ m ∈ w.news, m.bar = k.bar

namespace Work.Fit

theorem note (x : w.Fit k) (c : Bool) (head : Word) (kind : DefectKind) : (w.note c head kind).Fit k := by
  unfold Work.note
  split
  · exact ⟨addNote_nodup x.single, x.own⟩
  · exact x

theorem tell (x : w.Fit k) (head : Word) (news : StatusNews) : (w.tell k.bar head news).Fit k where
  single := x.single
  own m mem := by
    obtain before | rfl := Work.mem_tell _ _ _ |>.mp mem
    · exact x.own m before
    · rfl

theorem setPlace (x : w.Fit k) (q : Place) : (w.setPlace q).Fit k := ⟨x.single, x.own⟩

theorem locatedAt (x : w.Fit k) (r : PanelRecord) : ({ w with located := some r } : Work).Fit k := ⟨x.single, x.own⟩

theorem empty (x : w.Fit k) (o : StrokeOutcome) : (w.empty o).Fit k := x.setPlace _

theorem judge (x : w.Fit k) : (k.judge r w).Fit k := by
  unfold Stroke.judge
  dsimp only
  split_ifs
  · exact x
  · exact x.note _ _ _
  · exact (x.note _ _ _).tell _ _
  · exact ((x.note _ _ _).note _ _ _).tell _ _

theorem leave (x : w.Fit k) (c : CurrentPanel) : (k.leave c w).Fit k := by
  unfold Stroke.leave
  dsimp only
  split
  · exact (x.setPlace _).judge
  · exact x.setPlace _

theorem markStopped (x : w.Fit k) : (k.markStopped r w).Fit k := by
  unfold Stroke.markStopped
  dsimp only
  split_ifs
  · exact x
  · exact x.setPlace _
  · exact ((x.setPlace _).note _ _ _).tell _ _

theorem enter (x : w.Fit k) : (k.enter r w).Fit k := by
  unfold Stroke.enter
  dsimp only
  refine (Work.Fit.markStopped ?_).locatedAt r
  split
  · exact (x.setPlace _).tell _ _
  · exact x.setPlace _

theorem stay (x : w.Fit k) : (k.stay r w).Fit k := (x.setPlace _).markStopped.locatedAt r

theorem gap (x : w.Fit k) : (k.gap w).Fit k := by
  unfold Stroke.gap
  split
  · exact x
  · split
    · exact x
    · split
      · exact x.leave _
      · split
        · exact x.leave _
        · exact x

theorem locate (x : w.Fit k) : (k.locate w).Fit k := by
  unfold Stroke.locate
  split
  · exact x.gap
  · split
    · exact x.enter
    · split_ifs
      · exact x.stay
      · exact x
      · exact (x.leave _).enter
      · exact x.enter
      · exact x.gap

theorem tailStroke (x : w.Fit k) : (k.tailStroke r w).Fit k := by
  unfold Stroke.tailStroke
  dsimp only
  split
  · exact x.setPlace _
  · exact x.empty _

theorem placed (x : w.Fit k) : (k.placed r w).Fit k := by
  unfold Stroke.placed
  exact ((x.setPlace _).note _ _ _).note _ _ _

theorem walkStroke (x : w.Fit k) : (k.walkStroke r w).Fit k := by
  unfold Stroke.walkStroke
  dsimp only
  split_ifs
  · exact ((x.setPlace _).note _ _ _).placed
  · exact ((x.setPlace _).note _ _ _).empty _
  · exact (((x.setPlace _).note _ _ _).empty _).note _ _ _

theorem placement (x : w.Fit k) : (k.placement r w).Fit k := by
  have noted := x.note (k.strokeClass = .long) r.head .longStitch
  unfold Stroke.placement
  dsimp only
  split_ifs
  · exact noted.tailStroke
  · exact (noted.setPlace _).tailStroke
  · exact noted.empty _
  · exact noted.walkStroke

theorem act (x : w.Fit k) : (k.act w).Fit k := by
  unfold Stroke.act Stroke.runningStroke
  split
  · split
    · exact x.empty _
    · dsimp only
      split_ifs
      · exact x.empty _
      · exact (x.note _ _ _).placement
      · exact (x.note _ _ _).empty _
  · exact x.empty _

end Work.Fit

theorem Stroke.start_fit (k : Stroke) : k.start.Fit k := by
  refine ⟨?_, fun m mem => absurd mem List.not_mem_nil⟩
  unfold Stroke.start
  dsimp only
  split
  · exact List.nodup_singleton _
  · exact List.nodup_nil

theorem Stroke.finish_fit (k : Stroke) : k.finish.Fit k := k.start_fit.locate.act

/-! ### What locating the stroke notes -/

theorem Stroke.leave_noted_of_ne {h : Word} {d : DefectKind} (short : d ≠ .barShort) (tie : d ≠ .tieShort)
    (c : CurrentPanel) : Noted (k.leave c w).notes h d ↔ Noted w.notes h d := by
  rw [Stroke.leave_noted]
  refine or_iff_left fun ⟨r, _, _, _, kind⟩ => ?_
  exact kind.elim (fun barShort => short barShort.1) fun tieShort => tie tieShort.1

/-- Locating the stroke notes BAR_SHORT and TIE_SHORT alone (R68, R69, R79). -/
theorem Stroke.locate_noted_of_ne {h : Word} {d : DefectKind} (short : d ≠ .barShort) (tie : d ≠ .tieShort) :
    Noted (k.locate w).notes h d ↔ Noted w.notes h d := by
  have enter (r : PanelRecord) (v : Work) : Noted (k.enter r v).notes h d ↔ Noted v.notes h d := by
    rw [Stroke.enter_noted]
    exact or_iff_left fun ⟨_, _, _, barShort⟩ => short barShort
  have gap : Noted (k.gap w).notes h d ↔ Noted w.notes h d := by
    unfold Stroke.gap
    split
    · rfl
    · split
      · rfl
      · split
        · exact Stroke.leave_noted_of_ne short tie _
        · split
          · exact Stroke.leave_noted_of_ne short tie _
          · rfl
  unfold Stroke.locate
  split
  · exact gap
  · split
    · exact enter _ _
    · split_ifs
      · rw [Stroke.stay_noted]
        exact or_iff_left fun ⟨_, _, _, _, barShort⟩ => short barShort
      · rfl
      · exact (enter _ _).trans (Stroke.leave_noted_of_ne short tie _)
      · exact enter _ _
      · exact gap

/-! ### What the placement notes -/

/-- What a stroke notes from the walk on (R71, R74, R82, R83). -/
def WalkNotes (deep clamp lag : Prop) (o : StrokeOutcome) (d : DefectKind) : Prop :=
  d = .motifDepth ∧ deep ∨ d = .travelClamp ∧ clamp ∨ d = .lag ∧ lag ∨ d = .segOverrun ∧ o = .overrun

theorem not_walkNotes {o : StrokeOutcome} {d : DefectKind} (goes : o ≠ .overrun) :
    ¬ WalkNotes False False False o d := by
  simp [WalkNotes, goes]

/-- A stroke notes on its panel, besides what was noted, only what the walk and the placing come to: TRAVEL_CLAMP and
LAG only when it is PLACED, SEG_OVERRUN exactly when it is OVERRUN. -/
def Stroke.NotesWalk (k : Stroke) (r : PanelRecord) (w w' : Work) : Prop :=
  ∃ deep clamp lag : Prop, (deep → k.strokeClass.forward = true) ∧ (clamp ∨ lag → w'.place.outcome = .placed)
    ∧ ∀ h d, Noted w'.notes h d ↔ Noted w.notes h d ∨ h = r.head ∧ WalkNotes deep clamp lag w'.place.outcome d

theorem Stroke.NotesWalk.of_quiet {w' : Work} (notes : w'.notes = w.notes) (goes : w'.place.outcome ≠ .overrun) :
    k.NotesWalk r w w' := by
  refine ⟨False, False, False, False.elim, fun moved => moved.elim False.elim False.elim, fun h d => ?_⟩
  rw [notes]
  exact (or_iff_left fun walk => not_walkNotes goes walk.2).symm

theorem Stroke.tailStroke_notesWalk : k.NotesWalk r w (k.tailStroke r w) := by
  refine .of_quiet Stroke.tailStroke_notes ?_
  unfold Stroke.tailStroke
  dsimp only
  split <;> exact nofun

theorem noted_walk {before deep here depth rest kinds : Prop} (h : kinds ↔ depth ∧ deep ∨ rest) :
    (before ∨ deep ∧ here ∧ depth) ∨ here ∧ rest ↔ before ∨ here ∧ kinds := by
  rw [h]
  tauto

theorem Stroke.placed_notesWalk {deep : Bool} (forward : k.strokeClass.forward = true) :
    k.NotesWalk r w (k.placed r (w.note deep r.head .motifDepth)) := by
  obtain ⟨⟨z, offset⟩, position⟩ : ∃ out, patternPosition
    (k.state.store.under (w.note deep r.head .motifDepth).place.cursor) (k.y r.head)
    (w.note deep r.head .motifDepth).place = out := ⟨_, rfl⟩
  refine ⟨deep = true, k.clamped r z.p offset ≠ k.target r z.p offset,
    k.state.params.stepMax.get k.bar < (k.clamped r z.p offset - z.x).natAbs, fun _ => forward,
    fun _ => Stroke.placed_outcome .., fun h d => ?_⟩
  rw [Stroke.placed_noted rfl position, Work.noted_note, Stroke.placed_outcome]
  exact noted_walk (by simp [WalkNotes])

theorem Stroke.walkStroke_notesWalk (forward : k.strokeClass.forward = true) : k.NotesWalk r w (k.walkStroke r w) := by
  obtain ⟨⟨q, deep, covered⟩, walk⟩ : ∃ out, walkCursor k.state.store (k.panelBar r).pattern (k.y r.head)
    Config.walkBudget w.place false = out := ⟨_, rfl⟩
  cases covered with
  | true =>
    rw [Stroke.walkStroke_covered walk]
    exact Stroke.placed_notesWalk (w := w.setPlace q) forward
  | false =>
    refine ⟨deep = true, False, False, fun _ => forward, fun moved => moved.elim False.elim False.elim, fun h d => ?_⟩
    cases finished : q.finished with
    | true =>
      rw [Stroke.walkStroke_finished finished walk, Work.empty_notes, Work.noted_note, Work.setPlace_notes]
      exact (or_iff_left And.right).symm.trans (noted_walk (by simp [WalkNotes]))
    | false =>
      rw [Stroke.walkStroke_overrun finished walk, Work.noted_note, Work.empty_notes, Work.noted_note,
        Work.setPlace_notes, Work.note_place, Work.empty_place]
      exact (or_congr_right (and_iff_right rfl)).trans (noted_walk (by simp [WalkNotes]))

theorem Stroke.placement_notesWalk (forward : k.strokeClass.forward = true) :
    k.NotesWalk r (w.note (k.strokeClass = .long) r.head .longStitch) (k.placement r w) := by
  unfold Stroke.placement
  dsimp only
  split_ifs
  · exact Stroke.tailStroke_notesWalk
  · exact Stroke.tailStroke_notesWalk (w := (w.note (k.strokeClass = .long) r.head .longStitch).setPlace _)
  · exact .of_quiet rfl nofun
  · exact Stroke.walkStroke_notesWalk forward

/-- What a running stroke in a panel with a pattern for the bar notes (R70, R71, R74, R82, R83, R86). -/
theorem Stroke.act_notesWalk (running : k.running = true) (located : w.located = some r)
    (sews : (k.panelBar r).pattern ≠ none) : k.NotesWalk r ((w.note k.control.rehearsal r.head .rehearsed).note
      (k.strokeClass = .long) r.head .longStitch) (k.act w) := by
  cases forward : k.strokeClass.forward with
  | true =>
    have act : k.act w = k.placement r (w.note k.control.rehearsal r.head .rehearsed) := by
      have some_ : ¬ (k.panelBar r).pattern.isNone = true := by simpa using sews
      unfold Stroke.act Stroke.runningStroke
      rw [if_pos running, located]
      exact (if_neg some_).trans (if_pos forward)
    rw [act]
    exact Stroke.placement_notesWalk forward
  | false =>
    have short : decide (k.strokeClass = .long) = false := by
      rw [decide_eq_false_iff_not]
      intro long
      rw [long] at forward
      cases forward
    have rests : k.rests r = .held := by rw [Stroke.rests, if_pos running, if_neg sews]
    rw [Stroke.act_rests located (.inr (.inl forward)), rests, short, running, Option.isSome_iff_ne_none.mpr sews]
    exact .of_quiet rfl nofun

/-- A stroke that is stopped, or located in no panel with a pattern for the bar, notes nothing more. -/
theorem Stroke.act_notes_of_not
    (idle : ¬ (k.running = true ∧ ∃ r, w.located = some r ∧ (k.panelBar r).pattern ≠ none)) :
    (k.act w).notes = w.notes := by
  cases located : w.located with
  | none => rw [Stroke.act_of_nowhere located, Work.empty_notes]
  | some r =>
    have rests : k.running = false ∨ (k.panelBar r).pattern = none := by
      by_contra both
      rw [not_or, Bool.not_eq_false] at both
      exact idle ⟨both.1, r, located, both.2⟩
    rw [Stroke.act_rests located (rests.imp_right .inr), Work.empty_notes]
    obtain stopped | none_ := rests
    · rw [stopped]
      rfl
    · rw [none_, Option.isSome_none, Bool.and_false]
      rfl

/-! ### What the whole stroke notes -/

theorem noted_sewing {late here on rehearsed long stitch walk : Prop} :
    ((late ∨ on ∧ here ∧ rehearsed) ∨ long ∧ here ∧ stitch) ∨ here ∧ walk
      ↔ late ∨ here ∧ (rehearsed ∧ on ∨ stitch ∧ long ∨ walk) := by
  tauto

/-- The bar sews in the panel of a head: it runs, located in a panel of that head with a pattern for it (R70). -/
def State.SewsIn (s : State) (b : Bar) (q : Place) (h : Word) : Prop :=
  s.RunsNext b ∧ ∃ r, r.head = h ∧ s.Covers b r ∧ q.current = some ⟨h, .inside⟩ ∧ (r.bars.get b).pattern ≠ none

/-- The kinds a stroke notes but for BAR_SHORT and TIE_SHORT: SELECT_LATE, and what it notes where it sews. -/
theorem State.finish_noted (s : State) (b : Bar) : let w := (s.strokeOf b).finish
    ∃ deep clamp lag : Prop, (deep → s.ForwardNext b) ∧ (clamp ∨ lag → w.place.outcome = .placed)
      ∧ ∀ h d, d ≠ .barShort → d ≠ .tieShort → (Noted w.notes h d ↔ s.NotesLate b h d ∨ s.SewsIn b w.place h
        ∧ (d = .rehearsed ∧ s.rehearsalNext b = true ∨ d = .longStitch ∧ s.LongNext b
          ∨ WalkNotes deep clamp lag w.place.outcome d)) := by
  obtain ⟨k, hk⟩ : ∃ k, k = s.strokeOf b := ⟨_, rfl⟩
  have running : k.running = true ↔ s.RunsNext b := hk ▸ s.strokeOf_running b
  have forward : k.strokeClass.forward = true ↔ s.ForwardNext b := hk ▸ s.strokeOf_forward b
  have long : k.strokeClass = .long ↔ s.LongNext b := hk ▸ s.strokeOf_long b
  have fixed : k.control.rehearsal = s.rehearsalNext b ∧ ∀ r, (k.panelBar r).pattern = (r.bars.get b).pattern := by
    subst hk
    exact ⟨rfl, fun _ => rfl⟩
  have late (h : Word) {d : DefectKind} (short : d ≠ .barShort) (tie : d ≠ .tieShort) :
      Noted (k.locate k.start).notes h d ↔ s.NotesLate b h d :=
    (Stroke.locate_noted_of_ne short tie).trans (hk ▸ s.start_noted b h d)
  have current : k.finish.place.current = (k.locate k.start).place.current := (k.act_acts _).current
  have located (r : PanelRecord) : (k.locate k.start).located = some r
      ↔ s.Covers b r ∧ k.finish.place.current = some ⟨r.head, .inside⟩ := by
    rw [Stroke.locate_located_iff rfl, current]
    exact and_congr_left fun _ => hk ▸ s.strokeOf_covering b
  rw [← hk]
  by_cases sews : k.running = true ∧ ∃ r, (k.locate k.start).located = some r ∧ (k.panelBar r).pattern ≠ none
  · obtain ⟨runs, r, here, pattern⟩ := sews
    obtain ⟨deep, clamp, lag, goes, moved, noted⟩ := Stroke.act_notesWalk runs here pattern
    have sewn (h : Word) : s.SewsIn b k.finish.place h ↔ h = r.head := by
      constructor
      · rintro ⟨_, q, rfl, covers, inside, _⟩
        have same := ((located q).mpr ⟨covers, inside⟩).symm.trans here
        rw [Option.some.inj same]
      · rintro rfl
        exact ⟨running.mp runs, r, rfl, ((located r).mp here).1, ((located r).mp here).2, fixed.2 r ▸ pattern⟩
    refine ⟨deep, clamp, lag, fun d => forward.mp (goes d), moved, fun h d short tie => ?_⟩
    rw [sewn, Stroke.finish, noted, Work.noted_note, Work.noted_note, late h short tie, fixed.1, decide_eq_true_eq,
      long]
    exact noted_sewing
  · refine ⟨False, False, False, False.elim, fun moved => moved.elim False.elim False.elim, fun h d short tie => ?_⟩
    rw [Stroke.finish, Stroke.act_notes_of_not sews, late h short tie]
    refine (or_iff_left fun ⟨⟨runs, r, head, covers, inside, pattern⟩, _⟩ => ?_).symm
    exact sews ⟨running.mpr runs, r, (located r).mpr ⟨covers, head ▸ inside⟩, (fixed.2 r).symm ▸ pattern⟩

end Sys2Proof.Machine
end

section
/-! PROOF. The messages of a bar that its stroke takes first, and the messages the stroke hands on (R88 to R91). -/

namespace Sys2Proof.Machine

variable {s : State} {b : Bar} {k : Stroke} {w : Work}

/-! ### The messages taken -/

theorem State.ownMessages_perm (s : State) (b : Bar) :
    (s.ownMessages b).Perm (s.messages.filter (Message.sentBy b)) := by
  unfold State.ownMessages
  dsimp only
  split
  · exact List.filter_append_perm _ _
  · rfl

/-- But for the scan request the messages are taken in the order sent (R89, R91). -/
theorem State.ownMessages_rest (s : State) (b : Bar) : (s.ownMessages b).filter (fun m => !m.isScan)
    = (s.messages.filter (Message.sentBy b)).filter (fun m => !m.isScan) := by
  have scans (ms : List Message) : (ms.filter Message.isScan).filter (fun m => !m.isScan) = [] :=
    List.filter_eq_nil_iff.mpr fun m mem => by simp [(List.mem_filter.mp mem).2]
  unfold State.ownMessages
  dsimp only
  split
  · rw [List.filter_append, scans, List.nil_append]
    exact List.filter_eq_self.mpr fun m mem => (List.mem_filter.mp mem).2
  · rfl

theorem State.foldl_deliver_choices (ms : List Message) (s : State) :
    (ms.foldl State.deliver s).choices = s.choices := by
  induction ms generalizing s with
  | nil => rfl
  | cons m ms ih => exact (ih _).trans (s.deliver_choices m)

/-- The flush delivers the bar's messages one after the other, with none of them left in flight (R89). -/
theorem State.flush_eq_foldl (s : State) (b : Bar) : s.flush b = (s.ownMessages b).foldl State.deliver { s with
    messages := s.messages.filter (fun m => !Message.sentBy b m)
    choices := (s.flush b).choices } := by
  unfold State.flush
  split
  · rename_i none_
    have own : s.ownMessages b = [] := by
      have perm := s.ownMessages_perm b
      rw [none_] at perm
      exact perm.eq_nil
    have rest : s.messages.filter (fun m => !Message.sentBy b m) = s.messages :=
      List.filter_eq_self.mpr fun m mem => by simpa using List.filter_eq_nil_iff.mp none_ m mem
    rw [own, rest]
    rfl
  · rw [State.foldl_deliver_choices]

/-- The needle monitor's notices are no messages of a bar's sequencer (R89, R125). -/
theorem State.takeConsumption_foreign (m : ConsumptionNotice) (h : ∀ x ∈ s.messages, x.sentBy b = false) :
    ∀ x ∈ (s.takeConsumption m).messages, x.sentBy b = false := by
  have drawn := s.drawn_frame m (threadDrawn m.advance (s.params.threadFactor.get m.bar))
  have out : (!Machine.answered DefectKind.threadOut.bit) = false := by decide
  rw [State.takeConsumption_eq rfl, drawn]
  split
  · cases m.panel with
    | none => exact h
    | some head =>
      intro x mem
      obtain before | rfl : x ∈ s.messages ∨ x = _ := by simpa [State.sendMonitorNotice, State.send] using mem
      · exact h x before
      · exact Bool.and_eq_false_imp.mpr fun _ => out
  · exact h

theorem State.deliver_foreign (m : Message) (h : ∀ x ∈ s.messages, x.sentBy b = false) :
    ∀ x ∈ (s.deliver m).messages, x.sentBy b = false := by
  cases m with
  | status m => simpa [State.deliver] using h
  | notice n => simpa [State.deliver] using h
  | consumption n => exact State.takeConsumption_foreign n h
  | scan r => simpa [State.deliver] using h

/-- After the flush none of the bar's messages is in flight (R89). -/
theorem State.flush_foreign (s : State) (b : Bar) : ∀ x ∈ (s.flush b).messages, x.sentBy b = false := by
  have delivered (ms : List Message) (u : State) (hu : ∀ x ∈ u.messages, x.sentBy b = false) :
      ∀ x ∈ (ms.foldl State.deliver u).messages, x.sentBy b = false := by
    induction ms generalizing u with
    | nil => exact hu
    | cons m ms ih => exact ih _ (State.deliver_foreign m hu)
  rw [State.flush_eq_foldl]
  exact delivered _ _ fun x mem => by simpa using (List.mem_filter.mp mem).2

/-! ### The messages handed on -/

/-- The status messages and the defect notices of a stroke (R88). -/
def Stroke.sent (k : Stroke) (w : Work) : List Message := w.news.map .status ++ k.notices w

theorem Stroke.mem_sent {m : Message} : m ∈ k.sent w ↔ (∃ x ∈ w.news, m = .status x)
    ∨ ∃ h kinds, (h, kinds) ∈ w.notes ∧ kinds ≠ 0 ∧ m = .notice ⟨k.bar, h, kinds, k.y h⟩ := by
  simp only [Stroke.sent, Stroke.notices, List.mem_append, List.mem_map, List.mem_filter, decide_eq_true_eq,
    Prod.exists, and_assoc, eq_comm (b := m)]

/-- The notices of a stroke say what it noted (R88). -/
theorem Stroke.notice_sent_iff (h : Word) (d : DefectKind) :
    (∃ kinds : DefectSet, .notice ⟨k.bar, h, kinds, k.y h⟩ ∈ k.sent w ∧ kinds.getLsbD d.number = true)
      ↔ Noted w.notes h d := by
  refine exists_congr fun kinds => and_congr_left fun set_ => ?_
  rw [Stroke.mem_sent]
  constructor
  · rintro (⟨x, _, same⟩ | ⟨h', kinds', mem, _, same⟩)
    · cases same
    · obtain ⟨_, rfl, rfl, _⟩ := DefectNotice.mk.inj (Message.notice.inj same)
      exact mem
  · refine fun mem => .inr ⟨h, kinds, mem, fun zero => ?_, rfl⟩
    rw [zero] at set_
    simp at set_

/-- Two messages that are no two notices of one bar to one panel. -/
def Message.Apart (m m' : Message) : Prop :=
  ∀ b h kinds kinds' y y', m = .notice ⟨b, h, kinds, y⟩ → m' ≠ .notice ⟨b, h, kinds', y'⟩

/-- A stroke sends at most one notice for each panel (R88). -/
theorem Work.Fit.sent_apart (fit : w.Fit k) : (k.sent w).Pairwise Message.Apart := by
  have notices : (k.notices w).Pairwise Message.Apart := by
    rw [Stroke.notices, List.pairwise_map]
    refine ((List.pairwise_map.mp fit.single).sublist List.filter_sublist).imp fun other => ?_
    intro b h kinds kinds' y y' first second
    obtain ⟨_, head, _, _⟩ := DefectNotice.mk.inj (Message.notice.inj first)
    obtain ⟨_, head', _, _⟩ := DefectNotice.mk.inj (Message.notice.inj second)
    exact other (head.trans head'.symm)
  refine List.pairwise_append.mpr ⟨List.pairwise_map.mpr ?_, notices, fun m mem m' _ => ?_⟩
  · exact List.pairwise_of_forall fun _ _ b h kinds kinds' y y' same => nomatch same
  · obtain ⟨x, _, rfl⟩ := List.mem_map.mp mem
    exact fun b h kinds kinds' y y' same => nomatch same

/-- What follows the notices: the consumption notice of a running stroke of class NORMAL or LONG, and the scan request
with the frame of the stroke before (R90, R91). -/
theorem State.evaluateStroke_rest (s : State) (b : Bar) : let k := s.strokeOf b
    let q' := ((s.evaluateStroke b).bars.get b).place
    (s.evaluateStroke b).messages.drop (s.messages.length + (k.sent k.finish).length)
      = (if k.running && k.strokeClass.forward then
          [.consumption ⟨b, k.advance, q'.previous.needles, q'.previous.panel⟩] else [])
        ++ [.scan ⟨b, k.running, (s.bars.get b).place.previous.needles, (s.bars.get b).place.previous.panel⟩] := by
  have previous : (s.strokeOf b).finish.place.previous = (s.bars.get b).place.previous :=
    ((s.strokeOf b).act_acts _).previous.trans Stroke.locate_previous
  dsimp only
  rw [State.evaluateStroke_messages, Stroke.messages, ← Stroke.sent, List.append_assoc, ← List.append_assoc,
    ← List.length_append, List.drop_left, previous, State.evaluateStroke_bar, Stroke.sentPlace]
  cases (s.strokeOf b).running <;> rfl

theorem State.strokeOf_advance {adv : Int} (advance : s.AdvanceIs b adv) : (s.strokeOf b).advance = adv := by
  obtain ⟨last, reference, rfl⟩ := advance
  have fixed : (s.strokeOf b).advance = (classify s.params s.w (s.bars.get b).reference).advance := rfl
  rw [fixed, classify_some reference]

/-- The kinds a stroke notes, kind by kind. -/
theorem State.finish_kinds (s : State) (b : Bar) (h : Word) : let w := (s.strokeOf b).finish
    (Noted w.notes h .selectLate ↔ s.NotesLate b h .selectLate)
      ∧ (Noted w.notes h .rehearsed ↔ s.SewsIn b w.place h ∧ s.rehearsalNext b = true)
      ∧ (Noted w.notes h .longStitch ↔ s.SewsIn b w.place h ∧ s.LongNext b)
      ∧ (Noted w.notes h .segOverrun ↔ s.SewsIn b w.place h ∧ w.place.outcome = .overrun)
      ∧ (Noted w.notes h .travelClamp ∨ Noted w.notes h .lag → s.SewsIn b w.place h ∧ w.place.outcome = .placed)
      ∧ (Noted w.notes h .motifDepth → s.SewsIn b w.place h ∧ s.ForwardNext b)
      ∧ ¬ Noted w.notes h .needleBreak ∧ ¬ Noted w.notes h .threadOut ∧ ¬ Noted w.notes h .barSkipped
      ∧ ¬ Noted w.notes h .cutMissed ∧ ¬ Noted w.notes h .aborted := by
  obtain ⟨deep, clamp, lag, goes, moved, noted⟩ := s.finish_noted b
  dsimp only
  refine ⟨(noted h .selectLate nofun nofun).trans ?_, (noted h .rehearsed nofun nofun).trans ?_,
    (noted h .longStitch nofun nofun).trans ?_, (noted h .segOverrun nofun nofun).trans ?_, ?_, fun depth => ?_,
    (noted h .needleBreak nofun nofun).not.mpr ?_, (noted h .threadOut nofun nofun).not.mpr ?_,
    (noted h .barSkipped nofun nofun).not.mpr ?_, (noted h .cutMissed nofun nofun).not.mpr ?_,
    (noted h .aborted nofun nofun).not.mpr ?_⟩
  case refine_5 =>
    rw [noted h .travelClamp nofun nofun, noted h .lag nofun nofun]
    simp only [State.NotesLate, WalkNotes, reduceCtorEq, false_and, false_or, true_and, or_false]
    exact fun either => either.elim (fun x => ⟨x.1, moved (.inl x.2)⟩) fun x => ⟨x.1, moved (.inr x.2)⟩
  case refine_6 =>
    rw [noted h .motifDepth nofun nofun] at depth
    simp only [State.NotesLate, WalkNotes, reduceCtorEq, false_and, false_or, true_and, or_false] at depth
    exact ⟨depth.1, goes depth.2⟩
  all_goals simp [WalkNotes, State.NotesLate]

/-- Settles O34: the bar's messages delivered, and then what the stroke sends. -/
theorem strokeTakesAndSendsMessages : Obligations.StrokeTakesAndSendsMessages := by
  unfold Obligations.StrokeTakesAndSendsMessages
  intro s b arrives
  obtain ⟨v, hv⟩ : ∃ v, v = s.strokeReady b := ⟨_, rfl⟩
  obtain ⟨k, hk⟩ : ∃ k, k = v.strokeOf b := ⟨_, rfl⟩
  have bars : v.bars = s.bars := hv ▸ s.strokeReady_bars b
  have runs_iff : v.RunsNext b ↔ s.RunsNext b := hv ▸ s.strokeReady_runsNext b
  have rehearsal : v.rehearsalNext b = s.rehearsalNext b := hv ▸ s.strokeReady_rehearsalNext b
  have long_iff : v.LongNext b ↔ s.LongNext b := hv ▸ s.strokeReady_longNext b
  have forward_iff : v.ForwardNext b ↔ s.ForwardNext b := hv ▸ s.strokeReady_forwardNext b
  have late (h : Word) (d : DefectKind) : v.NotesLate b h d ↔ s.NotesLate b h d := by rw [State.NotesLate, bars]; rfl
  have y : k.y = s.yAt b := hk ▸ hv ▸ s.strokeReady_yAt b
  have bar : k.bar = b := by rw [hk]; rfl
  have running : k.running = true ↔ s.RunsNext b := hk ▸ (v.strokeOf_running b).trans runs_iff
  have forward : k.strokeClass.forward = true ↔ s.ForwardNext b := hk ▸ (v.strokeOf_forward b).trans forward_iff
  have fit : k.finish.Fit k := k.finish_fit
  have place : ((v.evaluateStroke b).bars.get b).place = k.sentPlace k.finish := by rw [State.evaluateStroke_bar, hk]
  have messages : (v.evaluateStroke b).messages = v.messages ++ k.sent k.finish
      ++ (v.evaluateStroke b).messages.drop (v.messages.length + (k.sent k.finish).length) := by
    obtain ⟨rest, whole⟩ : ∃ rest, (v.evaluateStroke b).messages = v.messages ++ k.sent k.finish ++ rest :=
      ⟨_, by rw [State.evaluateStroke_messages, ← hk, Stroke.messages, ← Stroke.sent, List.append_assoc,
        List.append_assoc]⟩
    rw [whole, ← List.length_append, List.drop_left]
  have rest := v.evaluateStroke_rest b
  have kinds (h : Word) := v.finish_kinds b h
  dsimp only at rest kinds
  rw [← hk, bars] at rest
  simp only [← hk, rehearsal, long_iff, forward_iff, late] at kinds
  refine ⟨v.evaluateStroke b, v, s.ownMessages b, k.sent k.finish, hv ▸ exec_strokeEvent_ready arrives,
    s.ownMessages_perm b, s.ownMessages_rest b, ?_, State.evaluateStroke_table _ b, State.evaluateStroke_needles _ b,
    State.evaluateStroke_scans _ b, hv ▸ State.flush_foreign _ b, fun e halts late => ?_, messages, fun m mem => ?_,
    fun i j h kinds kinds' y y' before first second => ?_, ?_, fun runs adv advance above _ => ?_, fun runs slow => ?_,
    fun stops => ?_⟩
  · rw [State.evaluateStroke_inputs, State.evaluateStroke_strokesDue, State.evaluateStroke_choices, hv,
      State.strokeReady, State.flush_inputs, State.flush_strokesDue]
    exact State.flush_eq_foldl (s.pulseTaken b) b
  · rw [State.evaluateStroke_event, if_neg fun x => late x.2, if_neg fun x => halts x.2]
  · obtain ⟨x, told, rfl⟩ | ⟨h, kinds, _, nonzero, rfl⟩ := Stroke.mem_sent.mp mem
    · have own := fit.own x told
      rw [bar] at own
      exact .inl ⟨x.head, x.news, by rw [← own]⟩
    · exact .inr ⟨h, kinds, by rw [bar, y], nonzero⟩
  · obtain ⟨hi, first⟩ := List.getElem?_eq_some_iff.mp first
    obtain ⟨hj, second⟩ := List.getElem?_eq_some_iff.mp second
    exact List.pairwise_iff_getElem.mp fit.sent_apart i j hi hj before b h kinds kinds' y y' first second
  · intro noted sewsIn h
    have noted_iff (d : DefectKind) : noted h d ↔ Noted k.finish.notes h d := by
      have sent := Stroke.notice_sent_iff (k := k) (w := k.finish) h d
      rwa [bar, y] at sent
    have sews_iff : sewsIn h ↔ v.SewsIn b k.finish.place h := by
      rw [State.SewsIn, runs_iff]
      simp only [sewsIn, place]
      rfl
    have outcome : ((v.evaluateStroke b).bars.get b).place.outcome = k.finish.place.outcome := by
      rw [place]
      rfl
    rw [outcome]
    simp only [noted_iff, sews_iff]
    exact kinds h
  · rw [rest, running.mpr runs, forward.mpr ⟨adv, advance, above⟩, hk,
      State.strokeOf_advance (hv ▸ (s.strokeReady_advanceIs b adv).mpr advance)]
    rfl
  · rw [rest, running.mpr runs, Bool.eq_false_iff.mpr (mt forward.mp fun ⟨adv, advance, above⟩ =>
      absurd (slow adv advance) (not_lt.mpr above))]
    rfl
  · rw [rest, Bool.eq_false_iff.mpr (mt running.mp stops)]
    rfl

end Sys2Proof.Machine
end
